-- ==== Sys2Proof/Word.lean ====
section
/-! DEFINITION. The bit-vector types of the block's formats (rule R70) and of its registers (rules R27 to R32).
Every value is unsigned (rule R8). -/

namespace Sys2Proof

/-- STATE4: `cur` and the `next` fields of the ROM (rules R27, R71). -/
abbrev StateCode := BitVec 4

/-- PHASE2: `ph` (rules R28, R73). -/
abbrev PhaseCode := BitVec 2

/-- SENSE3: the masked sensor sample `0bPNE` (rules R74, R75). -/
abbrev Sense := BitVec 3

/-- TRAFFIC6: `traffic_q`, `traffic_out`, ROM `traffic` (rule R76). -/
abbrev TrafficWord := BitVec 6

/-- PED2: `ped_q`, `ped_out`, ROM `ped` (rule R78). -/
abbrev PedWord := BitVec 2

/-- The hold counter and the ROM `hold` field, `HOLD_W` = 16 bits (rules R6, R29, R81). -/
abbrev Ticks := BitVec 16

/-- FLT2: `flt` (rules R32, R181). -/
abbrev FaultCode := BitVec 2

/-- ROM56: one packed ROM entry (rule R80). -/
abbrev RomWord := BitVec 56

end Sys2Proof
end

