-- ==== Sys2Proof/Syntax.lean ====
section
/-! DEFINITION. What the block decodes and holds: the twelve rows of the opcode table, the ROM entry record,
the causes of a fault and the reasons a word does not decode. -/

namespace Sys2Proof

/-- One constructor per row of spec/opcode_table.json: nine state words (STATE4, rule R71) and three
micro-operations (PHASE2, rule R73). No row has an operand field: the operands are `cur`, the sample and the entry. -/
inductive Instr where
  | goNorthSouth    -- rule R122
  | waitNorthSouth  -- rule R123
  | goEastWest      -- rule R124
  | waitEastWest    -- rule R125
  | goPedestrian    -- rule R140
  | walkOnPhase1    -- rule R142
  | walkOffPhase1   -- rule R143
  | walkOnPhase2    -- rule R144
  | walkOffPhase2   -- rule R145
  | emit            -- rule R162
  | hold            -- rule R163
  | sample          -- rule R164
  deriving DecidableEq, Repr

/-- A word in one of the two formats that decode to an instruction. The format is part of the word because the
two live in different registers, `cur` and `ph` (rule R70). -/
inductive CodeWord where
  | state4 (code : StateCode)
  | phase2 (code : PhaseCode)
  deriving DecidableEq, Repr

/-- Why a word names no instruction (rule R84). -/
inductive DecodeError where
  /-- STATE4 codes 9..15 (rule R72). -/
  | illegalStateCode (code : StateCode)
  /-- PHASE2 code 0b11 (rule R73). -/
  | illegalPhaseCode (code : PhaseCode)
  deriving DecidableEq, Repr

/-- One entry record of the state-table ROM (rule R51). `next[i]` is the successor for sensor index `i` (rule R82). -/
structure RomEntry where
  traffic : TrafficWord
  ped     : PedWord
  hold    : Ticks
  next    : Vector StateCode 8
  deriving DecidableEq, Repr

/-- The populated part of the ROM's address space: indices 0..8 (rule R50). -/
abbrev RomTable := Vector RomEntry 9

/-- The three faults (rule R181). -/
inductive FaultCause where
  | illegalState
  | illegalPhase
  | zeroHold
  deriving DecidableEq, Repr

end Sys2Proof
end

