-- ==== Sys2Proof/Config.lean ====
section
/-! DEFINITION. What an implementation fixes (rules R5 to R7) and what the environment leaves free (rules R12, R192). -/

namespace Sys2Proof

/-- The input ports at one rising edge of `clk` (rules R22 to R24). `sensorRaw` is the value on the port before it is
cut to the port's width (`SensorRead` cuts it, rule R56), so one type serves every `SENSOR_RAW_W` of rule R7. -/
structure EdgeInput where
  rst       : Bool
  tick      : Bool
  sensorRaw : Nat
  deriving DecidableEq, Repr, Inhabited

/-- The units rule R7 gives `TICK_PERIOD`. -/
inductive TimeUnit where
  | clocks
  | seconds
  deriving DecidableEq, Repr

/-- A length of time, `num / den` of its unit. Log entry 2. -/
structure Duration where
  num  : Nat
  den  : Nat
  unit : TimeUnit
  deriving DecidableEq, Repr

/-- A length of time above zero. -/
def Duration.positive (d : Duration) : Bool := decide (0 < d.num) && decide (0 < d.den)

/-- The same length of time, written as the same fraction or another one. -/
def Duration.same (d e : Duration) : Bool := d.unit == e.unit && d.num * e.den == e.num * d.den

/-- The open parameters of rule R7. They are configuration, not state: no step changes them (rule R38). -/
structure Params where
  table      : RomTable
  sensorRawW : Nat
  tickPeriod : Duration
  deriving DecidableEq, Repr

namespace Config

/-- `NSTATES` (rule R5). -/
def nStates : Nat := 9

/-- `NSENSE`, the width of the sensor word (rule R5). -/
def nSense : Nat := 3

/-- The input ports at an edge for which `State.inputs` lists nothing: a FREE VALUE for each edge number
(rule R12: the environment supplies the inputs at every edge as free inputs). Log entry 3. -/
opaque freeInput : Nat → EdgeInput

end Config

end Sys2Proof
end

