-- ==== Sys2Proof/WellFormed.lean ====
section
/-! DEFINITION. Which words are legal encodings (rule R84) and which instructions are well-formed.
The well-formedness of a TABLE (rule R113) is in Machine/TableCheck.lean. -/

namespace Sys2Proof

/-- A STATE4 word is legal when its code is in 0..8 (rules R71, R72), a PHASE2 word when it is not 0b11 (rule R73). -/
def CodeWord.wellFormed : CodeWord → Bool
  | .state4 c => decide (c.toNat ≤ 8)
  | .phase2 p => decide (p.toNat ≤ 2)

/-- The instruction's row in the opcode table: the word that `match` gives it (rules R71, R73). -/
def Instr.tableWord : Instr → CodeWord
  | .goNorthSouth   => .state4 0b0000#4
  | .waitNorthSouth => .state4 0b0001#4
  | .goEastWest     => .state4 0b0010#4
  | .waitEastWest   => .state4 0b0011#4
  | .goPedestrian   => .state4 0b0100#4
  | .walkOnPhase1   => .state4 0b0101#4
  | .walkOffPhase1  => .state4 0b0110#4
  | .walkOnPhase2   => .state4 0b0111#4
  | .walkOffPhase2  => .state4 0b1000#4
  | .emit           => .phase2 0b00#2
  | .hold           => .phase2 0b01#2
  | .sample         => .phase2 0b10#2

/-- An instruction is well-formed when its word is a legal encoding. No row has an operand, so there is no operand
check, and every constructor is well-formed. -/
def Instr.wellFormed (i : Instr) : Bool := i.tableWord.wellFormed

end Sys2Proof
end

