-- ==== Sys2Proof/Decode.lean ====
section
/-! DEFINITION. Decoding and encoding: STATE4 and PHASE2 words (rules R71, R73, R83), and the packed ROM56 entry word
(rule R80). -/

namespace Sys2Proof

/-! The codes of rules R71 and R73. -/

def codeGoNorthSouth   : StateCode := 0b0000#4
def codeWaitNorthSouth : StateCode := 0b0001#4
def codeGoEastWest     : StateCode := 0b0010#4
def codeWaitEastWest   : StateCode := 0b0011#4
def codeGoPedestrian   : StateCode := 0b0100#4
def codeWalkOnPhase1   : StateCode := 0b0101#4
def codeWalkOffPhase1  : StateCode := 0b0110#4
def codeWalkOnPhase2   : StateCode := 0b0111#4
def codeWalkOffPhase2  : StateCode := 0b1000#4

def phaseEmit   : PhaseCode := 0b00#2
def phaseHold   : PhaseCode := 0b01#2
def phaseSample : PhaseCode := 0b10#2

/-- The whole 4-bit code is the opcode (rule R83: mask 0xF). -/
def decodeState (c : StateCode) : Except DecodeError Instr :=
  match c.toNat with
  | 0 => .ok .goNorthSouth
  | 1 => .ok .waitNorthSouth
  | 2 => .ok .goEastWest
  | 3 => .ok .waitEastWest
  | 4 => .ok .goPedestrian
  | 5 => .ok .walkOnPhase1
  | 6 => .ok .walkOffPhase1
  | 7 => .ok .walkOnPhase2
  | 8 => .ok .walkOffPhase2
  | _ => .error (.illegalStateCode c)

/-- The phase selects the micro-operation (rules R73, R161). -/
def decodePhase (p : PhaseCode) : Except DecodeError Instr :=
  match p.toNat with
  | 0 => .ok .emit
  | 1 => .ok .hold
  | 2 => .ok .sample
  | _ => .error (.illegalPhaseCode p)

/-- Decoding is total on every word of both formats, and a word that names nothing is rejected by name (rule R84). -/
def decode : CodeWord → Except DecodeError Instr
  | .state4 c => decodeState c
  | .phase2 p => decodePhase p

/-- The encoder, written from the code tables of rules R71 and R73. -/
def encode : Instr → CodeWord
  | .goNorthSouth   => .state4 codeGoNorthSouth
  | .waitNorthSouth => .state4 codeWaitNorthSouth
  | .goEastWest     => .state4 codeGoEastWest
  | .waitEastWest   => .state4 codeWaitEastWest
  | .goPedestrian   => .state4 codeGoPedestrian
  | .walkOnPhase1   => .state4 codeWalkOnPhase1
  | .walkOffPhase1  => .state4 codeWalkOffPhase1
  | .walkOnPhase2   => .state4 codeWalkOnPhase2
  | .walkOffPhase2  => .state4 codeWalkOffPhase2
  | .emit           => .phase2 phaseEmit
  | .hold           => .phase2 phaseHold
  | .sample         => .phase2 phaseSample

/-- The word that a row of `nbits` bits holds, when its bits are `w`: two bits or fewer are a PHASE2 word for `ph`, more
are a STATE4 word for `cur`. A register holds the low bits of `w` and has no others. A number alone does not say which
of the two registers it is for, and this is the model's way to tell (log entry 7). -/
def tableCodeWord (nbits w : Nat) : CodeWord :=
  if nbits ≤ 2 then .phase2 (BitVec.ofNat 2 w) else .state4 (BitVec.ofNat 4 w)

/-- The instruction that the decoder reads from a row of `nbits` bits whose bits are `w`. -/
def decodeTableWord (nbits w : Nat) : Option Instr :=
  match decode (tableCodeWord nbits w) with
  | .ok i => some i
  | .error _ => none

/-- `next[i] = w[4i+3 : 4i]` (rule R80). -/
def nextField (w : RomWord) (i : Nat) : StateCode := w.extractLsb' (4 * i) 4

/-- The entry record that a ROM56 word packs (rule R80). -/
def unpackEntry (w : RomWord) : RomEntry where
  traffic := w.extractLsb' 50 6
  ped     := w.extractLsb' 48 2
  hold    := w.extractLsb' 32 16
  next    := #v[nextField w 0, nextField w 1, nextField w 2, nextField w 3,
                nextField w 4, nextField w 5, nextField w 6, nextField w 7]

/-- The ROM56 word of an entry record (rule R80): traffic in the top bits, `next[0]` in the lowest. -/
def packEntry (e : RomEntry) : RomWord :=
  e.traffic ++ e.ped ++ e.hold ++ e.next[7] ++ e.next[6] ++ e.next[5] ++ e.next[4] ++
    e.next[3] ++ e.next[2] ++ e.next[1] ++ e.next[0]

end Sys2Proof
end

