-- ==== Sys2Proof/Machine/Table.lean ====
section
/-! DEFINITION. The normative default TABLE (rule R114), one row per state rule. A row lists its successors by sensor
index 0b000 to 0b111, as the state rules do. -/

namespace Sys2Proof.Machine

/-- Rule R122: E/W red, N/S green. -/
def rowGoNorthSouth : RomEntry where
  traffic := 0b100001#6
  ped     := 0b10#2
  hold    := 600#16
  next    := #v[codeGoNorthSouth, codeWaitNorthSouth, codeGoNorthSouth, codeWaitNorthSouth,
                codeWaitNorthSouth, codeWaitNorthSouth, codeWaitNorthSouth, codeWaitNorthSouth]

/-- Rule R123: E/W red, N/S yellow. -/
def rowWaitNorthSouth : RomEntry where
  traffic := 0b100010#6
  ped     := 0b10#2
  hold    := 200#16
  next    := #v[codeGoEastWest, codeGoEastWest, codeGoEastWest, codeGoEastWest,
                codeGoPedestrian, codeGoPedestrian, codeGoPedestrian, codeGoPedestrian]

/-- Rule R124: E/W green, N/S red. -/
def rowGoEastWest : RomEntry where
  traffic := 0b001100#6
  ped     := 0b10#2
  hold    := 600#16
  next    := #v[codeGoEastWest, codeGoEastWest, codeWaitEastWest, codeWaitEastWest,
                codeWaitEastWest, codeWaitEastWest, codeWaitEastWest, codeWaitEastWest]

/-- Rule R125: E/W yellow, N/S red. -/
def rowWaitEastWest : RomEntry where
  traffic := 0b010100#6
  ped     := 0b10#2
  hold    := 200#16
  next    := #v[codeGoNorthSouth, codeGoNorthSouth, codeGoNorthSouth, codeGoNorthSouth,
                codeGoPedestrian, codeGoPedestrian, codeGoNorthSouth, codeGoNorthSouth]

/-- Rule R140: all red, walk. -/
def rowGoPedestrian : RomEntry where
  traffic := 0b100100#6
  ped     := 0b01#2
  hold    := 600#16
  next    := #v[codeGoPedestrian, codeWalkOnPhase1, codeWalkOnPhase1, codeWalkOnPhase1,
                codeGoPedestrian, codeWalkOnPhase1, codeWalkOnPhase1, codeWalkOnPhase1]

/-- Rule R142: all red, don't-walk lit. -/
def rowWalkOnPhase1 : RomEntry where
  traffic := 0b100100#6
  ped     := 0b10#2
  hold    := 50#16
  next    := Vector.replicate 8 codeWalkOffPhase1

/-- Rule R143: all red, both pedestrian lamps dark. -/
def rowWalkOffPhase1 : RomEntry where
  traffic := 0b100100#6
  ped     := 0b00#2
  hold    := 50#16
  next    := Vector.replicate 8 codeWalkOnPhase2

/-- Rule R144: all red, don't-walk lit. -/
def rowWalkOnPhase2 : RomEntry where
  traffic := 0b100100#6
  ped     := 0b10#2
  hold    := 50#16
  next    := Vector.replicate 8 codeWalkOffPhase2

/-- Rule R145: all red, both pedestrian lamps dark. -/
def rowWalkOffPhase2 : RomEntry where
  traffic := 0b100100#6
  ped     := 0b00#2
  hold    := 50#16
  next    := #v[codeGoNorthSouth, codeGoEastWest, codeGoNorthSouth, codeGoNorthSouth,
                codeGoNorthSouth, codeGoEastWest, codeGoNorthSouth, codeGoNorthSouth]

/-- The default TABLE in code order (rules R71, R114). -/
def defaultTable : RomTable :=
  #v[rowGoNorthSouth, rowWaitNorthSouth, rowGoEastWest, rowWaitEastWest, rowGoPedestrian,
     rowWalkOnPhase1, rowWalkOffPhase1, rowWalkOnPhase2, rowWalkOffPhase2]

/-- The parameters of a launch that names none: the default TABLE and the defaults of 92_eei_decisions.md, "Parameters
left open". -/
def defaultParams : Params where
  table      := defaultTable
  sensorRawW := 3
  tickPeriod := ⟨1, 1, .clocks⟩

end Sys2Proof.Machine
end

