-- ==== Sys2Proof/Machine/State.lean ====
section
/-! DEFINITION. The state of the block, its reset value, and the reasons a step can stop. -/

namespace Sys2Proof.Machine

/-- The registers of rules R27 to R32, the configuration of rule R38, and the model's own three fields. -/
structure State where
  /-- The current-state register and program counter (rules R27, R34). -/
  cur      : StateCode
  /-- The phase of the drive cycle (rule R28). -/
  ph       : PhaseCode
  /-- The hold counter, in ticks still to hold (rules R29, R191). -/
  cnt      : Ticks
  /-- The traffic output register `traffic_q` (rule R30). -/
  trafficQ : TrafficWord
  /-- The pedestrian output register `ped_q` (rule R31). -/
  pedQ     : PedWord
  /-- The sticky fault register (rule R32). -/
  flt      : FaultCode
  /-- The open parameters (rules R7, R38). No step changes them. Log entry 2. -/
  params   : Params
  /-- The model's own: an edge with `rst = 0` has taken place since the launch (rules R188, R214). Log entry 4. -/
  released : Bool
  /-- The model's own: the input ports at the coming edges, the next edge first (rules R12, R192). Log entry 3. -/
  inputs   : List EdgeInput
  /-- The model's own: how many edges have passed since the launch, so the coming edge has number `edge + 1`. Log entry 3. -/
  edge     : Nat
  deriving DecidableEq, Repr

/-- Reasons for which a step stops the machine. THERE ARE NONE: each of the three faults of rule R181 is entered by
writing `flt` (rule R183) and left by a reset edge (rule R185), so a faulted edge has a next state. Safe: no run is
cut short that the block continues. Log entry 1. -/
inductive Fault
  deriving DecidableEq, Repr

/-- Reasons for which a step has no meaning. -/
inductive Refusal where
  /-- Raised by a refused arm of `exec` for an instruction that has no meaning yet. No arm raises it. Safe. -/
  | notModelled (mnemonic : String)
  /-- Raised by `step` at the edge that first releases reset, by `launch` and by `State.supplyTable`: TABLE does not satisfy
  WF, so the launch has no run (rules R113, R188). Safe. -/
  | malformedTable
  /-- Raised by `step` at the edge that first releases reset and by `launch`: `SENSOR_RAW_W` or `TICK_PERIOD` is outside its
  legal range (rule R7). Safe. -/
  | illegalParameter
  /-- Raised by `State.supplyTable`: a change of TABLE after reset is released (rules R53, R188). Safe. -/
  | tableFrozen
  deriving DecidableEq, Repr

/-- The post-reset state of rule R40, with the default parameters, no edge passed and no input known. -/
def State.reset : State where
  cur      := 0x0#4
  ph       := 0b00#2
  cnt      := 0#16
  trafficQ := 0b100100#6
  pedQ     := 0b10#2
  flt      := 0b00#2
  params   := defaultParams
  released := false
  inputs   := []
  edge     := 0

end Sys2Proof.Machine
end

