-- ==== Sys2Proof/Machine/Flags.lean ====
section
/-! DEFINITION. The block has no flags or condition codes (rule R35). Its only status bits are `flt`: the fault codes
(rule R181) and what the output ports show under a fault (rules R25, R26). -/

namespace Sys2Proof.Machine

/-- The code recorded in `flt` (rules R32, R181). -/
def faultCode : FaultCause → FaultCode
  | .illegalState => 0b01#2
  | .illegalPhase => 0b10#2
  | .zeroHold     => 0b11#2

/-- The cause that a value of `flt` names, none for 0b00 (rule R181). -/
def faultOf (c : FaultCode) : Option FaultCause :=
  match c.toNat with
  | 0 => none
  | 1 => some .illegalState
  | 2 => some .illegalPhase
  | _ => some .zeroHold

/-- Both directions red (rule R77). -/
def allRed : TrafficWord := 0b100100#6

/-- Don't-walk lit, walk dark (rule R79). -/
def dontWalk : PedWord := 0b10#2

/-- The controller is faulted (rule R183). -/
def State.faulted (s : State) : Bool := s.flt != 0b00#2

/-- The port `traffic_out` (rule R25). -/
def State.trafficOut (s : State) : TrafficWord := if s.flt = 0b00#2 then s.trafficQ else allRed

/-- The port `ped_out` (rule R26). -/
def State.pedOut (s : State) : PedWord := if s.flt = 0b00#2 then s.pedQ else dontWalk

end Sys2Proof.Machine
end

