-- ==== Sys2Proof/Machine/Ops.lean ====
section
/-! DEFINITION. The named operations on the state: reading the ports and the ROM, writing the registers, taking a fault,
and its return, the reset action. Each writes all its targets together (rule R9). -/

namespace Sys2Proof.Machine

/-- The input ports at the coming edge: the scheduled value, or the environment's free value. -/
def State.ports (s : State) : EdgeInput :=
  match s.inputs with
  | i :: _ => i
  | [] => Config.freeInput s.edge

/-- `RomRead(i)` (rule R52). Indices 9..15 are unpopulated and have no value. -/
def romRead (t : RomTable) (c : StateCode) : Option RomEntry := t[c.toNat]?

/-- `SensorRead()`: all `SENSOR_RAW_W` bits of the port at the coming edge (rule R56). -/
def State.sensorRead (s : State) : BitVec s.params.sensorRawW :=
  BitVec.ofNat s.params.sensorRawW s.ports.sensorRaw

/-- `LightWrite(t, p)` (rule R57). -/
def State.lightWrite (t : TrafficWord) (p : PedWord) (s : State) : State :=
  { s with trafficQ := t, pedQ := p }

/-- `cnt <- h`: load the hold-timer (rule R191). -/
def State.loadTimer (h : Ticks) (s : State) : State := { s with cnt := h }

/-- `ph <- p` (rule R28). -/
def State.setPhase (p : PhaseCode) (s : State) : State := { s with ph := p }

/-- `cur <- c` (rules R10, R34). -/
def State.setCur (c : StateCode) (s : State) : State := { s with cur := c }

/-- A counted tick: `cnt <- cnt - 1`, and `ph <- SAMPLE` when the counter was 1 before the edge (rule R163). -/
def State.countTick (s : State) : State :=
  { s with cnt := s.cnt - 1#16, ph := if s.cnt = 1#16 then phaseSample else s.ph }

/-- TAKING A FAULT, `raise Fault(c)`: `flt <- c` and nothing else (rules R161, R183). There is no vector, no handler and
no saved state. -/
def State.takeFault (f : FaultCause) (s : State) : State := { s with flt := faultCode f }

/-- The reset action, which is also the only RETURN FROM A FAULT (rules R185, R210). TABLE and the other parameters are
configuration and keep their values. -/
def State.doReset (s : State) : State :=
  { s with
    cur := 0x0#4, ph := 0b00#2, cnt := 0#16, trafficQ := 0b100100#6, pedQ := 0b10#2, flt := 0b00#2 }

/-- An edge with `rst = 0` has taken place (rule R214, step 6). -/
def State.release (s : State) : State := { s with released := true }

/-- The edge has passed: its inputs are gone and the edge number goes on. -/
def State.endEdge (s : State) : State := { s with inputs := s.inputs.tail, edge := s.edge + 1 }

/-- Apply `f` to the next state of an outcome. -/
def mapNext (f : State → State) : Host.Outcome State Fault Refusal → Host.Outcome State Fault Refusal
  | .next s => .next (f s)
  | .fault r => .fault r
  | .refused r => .refused r

end Sys2Proof.Machine
end

