-- ==== Sys2Proof/Machine/Operands.lean ====
section
/-! DEFINITION. The operand forms: the masked sensor sample, the two read operations of the state table, and the lamp
bits of the output words. -/

namespace Sys2Proof.Machine

/-- `s = sensor_raw[2:0]` of a read of any width (rule R75). -/
def maskSense {w : Nat} (raw : BitVec w) : Sense := raw.extractLsb' 0 3

/-- The sensor index at the coming edge (rules R75, R102). -/
def State.sense (s : State) : Sense := maskSense s.sensorRead

/-- P: pedestrian present, bit 2 (rule R74). -/
def senseP (s : Sense) : Bool := s[2]

/-- N: north/south car present, bit 1 (rule R74). -/
def senseN (s : Sense) : Bool := s[1]

/-- E: east/west car present, bit 0 (rule R74). -/
def senseE (s : Sense) : Bool := s[0]

/-- The reading favours N/S (rule R13). -/
def favoursNS (s : Sense) : Bool := senseN s && !senseE s

/-- The reading favours E/W (rule R13). -/
def favoursEW (s : Sense) : Bool := senseE s && !senseN s

/-- `next[s]` of an entry (rule R82). -/
def entryNext (e : RomEntry) (s : Sense) : StateCode := e.next[s.toNat]'s.isLt

/-- `outputs_for(state)` (rule R100). -/
def outputsFor (t : RomTable) (c : StateCode) : Except FaultCause (TrafficWord × PedWord × Ticks) :=
  match romRead t c with
  | none => .error .illegalState
  | some e => .ok (e.traffic, e.ped, e.hold)

/-- `next_state(state, s)` (rule R101). -/
def nextState (t : RomTable) (c : StateCode) (s : Sense) : Except FaultCause StateCode :=
  match romRead t c with
  | none => .error .illegalState
  | some e => if 8 < (entryNext e s).toNat then .error .illegalState else .ok (entryNext e s)

/-! The lamps of a traffic word (rule R76) and of a pedestrian word (rule R78). -/

def lampEWRed (t : TrafficWord) : Bool := t[5]
def lampEWYellow (t : TrafficWord) : Bool := t[4]
def lampEWGreen (t : TrafficWord) : Bool := t[3]
def lampNSRed (t : TrafficWord) : Bool := t[2]
def lampNSYellow (t : TrafficWord) : Bool := t[1]
def lampNSGreen (t : TrafficWord) : Bool := t[0]
def lampWalk (p : PedWord) : Bool := p[0]
def lampDontWalk (p : PedWord) : Bool := p[1]

/-- How many lamps of the E/W direction are lit: `popcount(t[5:3])` (rule R77). -/
def litEW (t : TrafficWord) : Nat := (lampEWRed t).toNat + (lampEWYellow t).toNat + (lampEWGreen t).toNat

/-- How many lamps of the N/S direction are lit: `popcount(t[2:0])` (rule R77). -/
def litNS (t : TrafficWord) : Nat := (lampNSRed t).toNat + (lampNSYellow t).toNat + (lampNSGreen t).toNat

/-- A legal traffic word (rule R77). -/
def legalTraffic (t : TrafficWord) : Bool :=
  litEW t == 1 && litNS t == 1 && !(lampEWGreen t && lampNSGreen t)

/-- A legal pedestrian word (rule R79). -/
def legalPed (p : PedWord) : Bool := p != 0b11#2

end Sys2Proof.Machine
end

