-- ==== Sys2Proof/Machine/Phases.lean ====
section
/-! DEFINITION. The three micro-operations of the drive cycle (rules R162 to R164), first as operations on a given entry
code, then as the meanings of the PHASE2 rows, whose code is `cur`. -/

namespace Sys2Proof.Machine

/-- EMIT of the entry with code `c` (rule R162): outputs and hold-timer are loaded, the next phase is HOLD. -/
def emitEdge (c : StateCode) (s : State) : State :=
  match outputsFor s.params.table c with
  | .error f => s.takeFault f
  | .ok (t, p, h) =>
    if h = 0#16 then s.takeFault .zeroHold
    else ((s.lightWrite t p).loadTimer h).setPhase phaseHold

/-- HOLD (rule R163): the check of `cnt` comes first and does not depend on `tick`. -/
def holdEdge (s : State) : State :=
  if s.cnt = 0#16 then s.takeFault .zeroHold
  else if s.ports.tick then s.countTick
  else s

/-- SAMPLE of the entry with code `c` (rule R164): the successor for the masked sample is loaded into `cur`. -/
def sampleEdge (c : StateCode) (s : State) : State :=
  match nextState s.params.table c s.sense with
  | .error f => s.takeFault f
  | .ok n => (s.setCur n).setPhase phaseEmit

/-- What the entry with code `c` does at an edge: the phase selects which of its fields the edge uses (rule R83); phase
code 0b11 raises IllegalPhase (rule R165). -/
def entryEdge (c : StateCode) (s : State) : State :=
  if s.ph = phaseEmit then emitEdge c s
  else if s.ph = phaseHold then holdEdge s
  else if s.ph = phaseSample then sampleEdge c s
  else s.takeFault .illegalPhase

/-- EMIT (rule R162). -/
def execEmit (s : State) : Host.Outcome State Fault Refusal := .next (emitEdge s.cur s)

/-- HOLD (rule R163). -/
def execHold (s : State) : Host.Outcome State Fault Refusal := .next (holdEdge s)

/-- SAMPLE (rule R164). -/
def execSample (s : State) : Host.Outcome State Fault Refusal := .next (sampleEdge s.cur s)

end Sys2Proof.Machine
end

