-- ==== Sys2Proof/Machine/Pedestrian.lean ====
section
/-! DEFINITION. The meanings of GoPedestrian and of the four blink states (rules R140, R142 to R145): each is its ROM
entry, executed by the phase of the edge (rule R83). -/

namespace Sys2Proof.Machine

/-- GoPedestrian (rule R140). -/
def execGoPedestrian (s : State) : Host.Outcome State Fault Refusal := .next (entryEdge codeGoPedestrian s)

/-- WalkOnPhase1 (rule R142). -/
def execWalkOnPhase1 (s : State) : Host.Outcome State Fault Refusal := .next (entryEdge codeWalkOnPhase1 s)

/-- WalkOffPhase1 (rule R143). -/
def execWalkOffPhase1 (s : State) : Host.Outcome State Fault Refusal := .next (entryEdge codeWalkOffPhase1 s)

/-- WalkOnPhase2 (rule R144). -/
def execWalkOnPhase2 (s : State) : Host.Outcome State Fault Refusal := .next (entryEdge codeWalkOnPhase2 s)

/-- WalkOffPhase2 (rule R145). -/
def execWalkOffPhase2 (s : State) : Host.Outcome State Fault Refusal := .next (entryEdge codeWalkOffPhase2 s)

end Sys2Proof.Machine
end

