-- ==== Sys2Proof/Machine/Traffic.lean ====
section
/-! DEFINITION. The meanings of the four traffic states (rules R122 to R125): each is its ROM entry, executed by the
phase of the edge (rule R83). The entry's values are read from TABLE, never built in (rule R7). -/

namespace Sys2Proof.Machine

/-- GoNorthSouth (rule R122). -/
def execGoNorthSouth (s : State) : Host.Outcome State Fault Refusal := .next (entryEdge codeGoNorthSouth s)

/-- WaitNorthSouth (rule R123). -/
def execWaitNorthSouth (s : State) : Host.Outcome State Fault Refusal := .next (entryEdge codeWaitNorthSouth s)

/-- GoEastWest (rule R124). -/
def execGoEastWest (s : State) : Host.Outcome State Fault Refusal := .next (entryEdge codeGoEastWest s)

/-- WaitEastWest (rule R125). -/
def execWaitEastWest (s : State) : Host.Outcome State Fault Refusal := .next (entryEdge codeWaitEastWest s)

end Sys2Proof.Machine
end

