-- ==== Sys2Proof/Machine/Dispatch.lean ====
section
/-! DEFINITION. One arm per row of the opcode table. -/

namespace Sys2Proof.Machine

def exec (i : Instr) (s : State) : Host.Outcome State Fault Refusal :=
  match i with
  -- 41_traffic_states.md
  | .goNorthSouth => Sys2Proof.Machine.execGoNorthSouth s
  | .waitNorthSouth => Sys2Proof.Machine.execWaitNorthSouth s
  | .goEastWest => Sys2Proof.Machine.execGoEastWest s
  | .waitEastWest => Sys2Proof.Machine.execWaitEastWest s
  -- 42_pedestrian_states.md
  | .goPedestrian => Sys2Proof.Machine.execGoPedestrian s
  | .walkOnPhase1 => Sys2Proof.Machine.execWalkOnPhase1 s
  | .walkOffPhase1 => Sys2Proof.Machine.execWalkOffPhase1 s
  | .walkOnPhase2 => Sys2Proof.Machine.execWalkOnPhase2 s
  | .walkOffPhase2 => Sys2Proof.Machine.execWalkOffPhase2 s
  -- 43_dispatch_cycle.md
  | .emit => Sys2Proof.Machine.execEmit s
  | .hold => Sys2Proof.Machine.execHold s
  | .sample => Sys2Proof.Machine.execSample s

end Sys2Proof.Machine
end

