-- ==== Sys2Proof/Machine/TableCheck.lean ====
section
/-! DEFINITION. The well-formedness predicate WF(TABLE) of rule R113, clause by clause, and the refusal of a launch whose
parameters are not legal (rules R7, R188). -/

namespace Sys2Proof.Machine

/-- The nine state codes (rule R71). -/
def stateCodes : List StateCode :=
  [codeGoNorthSouth, codeWaitNorthSouth, codeGoEastWest, codeWaitEastWest, codeGoPedestrian,
   codeWalkOnPhase1, codeWalkOffPhase1, codeWalkOnPhase2, codeWalkOffPhase2]

/-- The four traffic states (rule R13). -/
def trafficCodes : List StateCode :=
  [codeGoNorthSouth, codeWaitNorthSouth, codeGoEastWest, codeWaitEastWest]

/-- The eight sensor indices (rule R75). -/
def senses : List Sense := [0b000#3, 0b001#3, 0b010#3, 0b011#3, 0b100#3, 0b101#3, 0b110#3, 0b111#3]

/-- The four samples with P = 1 (rule R108). -/
def pedSenses : List Sense := [0b100#3, 0b101#3, 0b110#3, 0b111#3]

/-- The successor that the table defines for `(c, s)`, if it defines one (rule R106). -/
def successor? (t : RomTable) (c : StateCode) (s : Sense) : Option StateCode :=
  match nextState t c s with
  | .ok n => some n
  | .error _ => none

/-- Some code and sample of the table satisfy, or all do. -/
def allCells (f : StateCode → Sense → Bool) : Bool := stateCodes.all fun c => senses.all (f c)

/-- Rule R105: no dangling references. -/
def noDangling (t : RomTable) : Bool :=
  t.toList.all fun e => e.next.toList.all fun n => decide (n.toNat ≤ 8)

/-- Rule R106: every state and every sensor index has a successor. -/
def isTotal (t : RomTable) : Bool := allCells fun c s => (successor? t c s).isSome

/-- The codes of `seen` and their successors. -/
def reachStep (t : RomTable) (seen : List StateCode) : List StateCode :=
  stateCodes.filter fun d =>
    seen.contains d || seen.any fun c => senses.any fun s => successor? t c s == some d

/-- The codes reachable from GoNorthSouth in at most `n` transitions. -/
def reachSet (t : RomTable) : Nat → List StateCode
  | 0 => [codeGoNorthSouth]
  | n + 1 => reachStep t (reachSet t n)

/-- Rule R107: all nine states are reachable from GoNorthSouth. Eight transitions reach whatever is reachable. -/
def allReachable (t : RomTable) : Bool := stateCodes.all fun c => (reachSet t 8).contains c

/-- The codes from which one transition with P = 1 always leads into `done`, and GoPedestrian itself. -/
def servedStep (t : RomTable) (done : List StateCode) : List StateCode :=
  stateCodes.filter fun c =>
    c == codeGoPedestrian ||
      pedSenses.all fun s => match successor? t c s with
        | some d => done.contains d
        | none => false

/-- The codes from which, with P = 1 at every sample and N and E arbitrary, GoPedestrian is entered within `n`
transitions (rule R108). -/
def servedSet (t : RomTable) : Nat → List StateCode
  | 0 => [codeGoPedestrian]
  | n + 1 => servedStep t (servedSet t n)

/-- Rule R108: pedestrian liveness with a finite bound. Nine states make eight transitions enough if any bound is. -/
def pedestrianLive (t : RomTable) : Bool := trafficCodes.all fun c => (servedSet t 8).contains c

/-- Rule R109: no entry shows both greens. -/
def noBothGreens (t : RomTable) : Bool :=
  t.toList.all fun e => !(lampEWGreen e.traffic && lampNSGreen e.traffic)

/-- The traffic word of the entry with code `c`, if there is one. -/
def trafficOf? (t : RomTable) (c : StateCode) : Option TrafficWord := (romRead t c).map (·.traffic)

/-- From the word `x` the word `y` does not show green for the direction opposite to a green of `x`. -/
def noCrossGreen (x y : TrafficWord) : Bool :=
  (!lampEWGreen y || !lampNSGreen x) && (!lampNSGreen y || !lampEWGreen x)

/-- Rule R110: no green-to-green transition, as its formula states it. -/
def noGreenToGreen (t : RomTable) : Bool :=
  allCells fun c s =>
    match trafficOf? t c, (successor? t c s).bind (trafficOf? t) with
    | some x, some y => noCrossGreen x y
    | _, _ => true

/-- Every successor of `c` satisfies `p`. -/
def everyNext (t : RomTable) (c : StateCode) (p : StateCode → Bool) : Bool :=
  senses.all fun s => (successor? t c s).any p

/-- Rule R111: the blink sequence is input-invariant and ends in a traffic Go state. -/
def blinkInvariant (t : RomTable) : Bool :=
  everyNext t codeWalkOnPhase1 (· == codeWalkOffPhase1) &&
  everyNext t codeWalkOffPhase1 (· == codeWalkOnPhase2) &&
  everyNext t codeWalkOnPhase2 (· == codeWalkOffPhase2) &&
  everyNext t codeWalkOffPhase2 fun n => n == codeGoNorthSouth || n == codeGoEastWest

/-- Rule R112: every hold is at least 1. -/
def positiveHolds (t : RomTable) : Bool := t.toList.all fun e => e.hold != 0#16

/-- Every traffic word is legal (rules R77, R113). -/
def legalTrafficWords (t : RomTable) : Bool := t.toList.all fun e => legalTraffic e.traffic

/-- No ped word is 0b11 (rules R79, R113). -/
def legalPedWords (t : RomTable) : Bool := t.toList.all fun e => legalPed e.ped

/-- Rule R121: the two Wait states never list themselves. -/
def waitsAdvance (t : RomTable) : Bool :=
  everyNext t codeWaitNorthSouth (· != codeWaitNorthSouth) &&
  everyNext t codeWaitEastWest (· != codeWaitEastWest)

/-- `WF(TABLE)` (rule R113). -/
def wfTable (t : RomTable) : Bool :=
  noDangling t && isTotal t && allReachable t && pedestrianLive t && noBothGreens t && noGreenToGreen t &&
  blinkInvariant t && positiveHolds t && legalTrafficWords t && legalPedWords t && waitsAdvance t

/-- Why a launch with these parameters is refused, if it is (rules R7, R188). -/
def paramsRefusal (p : Params) : Option Refusal :=
  if wfTable p.table = false then some .malformedTable
  else if p.sensorRawW < 3 || !p.tickPeriod.positive then some .illegalParameter
  else none

/-- The parameters of a launch that has a run. -/
def paramsLegal (p : Params) : Bool := paramsRefusal p == none

/-- Why the edge that releases reset is refused, if it is: the check is made before reset is released (rule R214), and no
later edge repeats it. Log entry 4. -/
def State.releaseRefusal (s : State) : Option Refusal := if s.released then none else paramsRefusal s.params

/-- The wall-clock length of `n` ticks, in the unit of `TICK_PERIOD` (rule R224). No step reads it (rule R12). -/
def wallTime (p : Params) (n : Nat) : Duration := { p.tickPeriod with num := n * p.tickPeriod.num }

end Sys2Proof.Machine
end

