-- ==== Sys2Proof/Machine/Step.lean ====
section
/-! DEFINITION. One rising edge of `clk` (rule R161), and the placing of a word where the next edge decodes it. -/

namespace Sys2Proof.Machine

/-- The phase of a controller that is not faulted, decoded and executed; a phase that names no micro-operation raises
IllegalPhase (rules R161, R165, R184). -/
def runPhase (s : State) : Host.Outcome State Fault Refusal :=
  match decodePhase s.ph with
  | .ok i => exec i s
  | .error _ => .next (s.takeFault .illegalPhase)

/-- An edge with `rst = 0` of a launch that has a run: a faulted controller changes no register (rules R161, R183). -/
def runEdge (s : State) : Host.Outcome State Fault Refusal :=
  if s.flt = 0b00#2 then runPhase s else .next s

/-- One edge (rule R161): reset takes precedence over everything (rules R22, R211); the edge that first releases reset is
refused if the launch has no meaning (rule R188). Around `exec` the step adds only that the edge has passed. -/
def step (s : State) : Host.Outcome State Fault Refusal :=
  if s.ports.rst then .next s.doReset.endEdge
  else
    match s.releaseRefusal with
    | some r => .refused r
    | none => mapNext (fun t => t.release.endEdge) (runEdge s)

/-- `s` with the word of a row in the register it is decoded from: a STATE4 word in `cur`, a PHASE2 word in `ph`. The next
edge decodes it when it is not a reset edge, the controller is not faulted, and reset is released. Log entry 7. -/
def State.withFetchWord (s : State) (nbits w : Nat) : State :=
  let ready : State :=
    { s with
      flt := 0b00#2
      released := true
      inputs := ⟨false, s.ports.tick, s.ports.sensorRaw⟩ :: s.inputs.tail }
  match tableCodeWord nbits w with
  | .state4 c => { ready with cur := c }
  | .phase2 p => { ready with ph := p }

end Sys2Proof.Machine
end

