-- ==== Sys2Proof/Machine/Drive.lean ====
section
/-! DEFINITION. The drive-cycle abstraction (rule R169). -/

namespace Sys2Proof.Machine

/-- One drive cycle: what it emits, its own hold, and the state of the next cycle (rule R169). -/
structure DriveCycle where
  traffic : TrafficWord
  ped     : PedWord
  hold    : Ticks
  next    : StateCode
  deriving DecidableEq, Repr

/-- `drive(c, s)` (rule R169). -/
def drive (t : RomTable) (c : StateCode) (s : Sense) : Except FaultCause DriveCycle :=
  match outputsFor t c, nextState t c s with
  | .ok (tr, p, h), .ok n => .ok ⟨tr, p, h, n⟩
  | .error f, _ => .error f
  | _, .error f => .error f

/-- The state after one drive cycle for each sample, starting in `c`. -/
def driveTo (t : RomTable) : StateCode → List Sense → Option StateCode
  | c, [] => some c
  | c, s :: rest =>
    match drive t c s with
    | .ok d => driveTo t d.next rest
    | .error _ => none

/-- The ticks that the drive cycles hold, one cycle for each sample (rule R225). -/
def driveTicks (t : RomTable) : StateCode → List Sense → Option Nat
  | _, [] => some 0
  | c, s :: rest =>
    match drive t c s with
    | .ok d => (driveTicks t d.next rest).map (d.hold.toNat + ·)
    | .error _ => none

end Sys2Proof.Machine
end

