-- ==== Sys2Proof/Machine/Listing.lean ====
section
/-! DEFINITION. The text forms of rule R86: the listing of a TABLE, one line per state in code order, and the stimulus
program, one line per drive cycle. A line of any other form is not accepted (92_eei_decisions.md D25). -/

namespace Sys2Proof.Machine

/-- A state's full name (rule R71) and its abbreviation (rule R13). -/
structure StateName where
  full : String
  abbr : String
  code : StateCode
  deriving DecidableEq, Repr

def stateNames : List StateName :=
  [⟨"GoNorthSouth", "GoNS", codeGoNorthSouth⟩,
   ⟨"WaitNorthSouth", "WaitNS", codeWaitNorthSouth⟩,
   ⟨"GoEastWest", "GoEW", codeGoEastWest⟩,
   ⟨"WaitEastWest", "WaitEW", codeWaitEastWest⟩,
   ⟨"GoPedestrian", "GoPed", codeGoPedestrian⟩,
   ⟨"WalkOnPhase1", "WOn1", codeWalkOnPhase1⟩,
   ⟨"WalkOffPhase1", "WOff1", codeWalkOffPhase1⟩,
   ⟨"WalkOnPhase2", "WOn2", codeWalkOnPhase2⟩,
   ⟨"WalkOffPhase2", "WOff2", codeWalkOffPhase2⟩]

/-- The code of an identifier, in its full or abbreviated form. `WaitPhaseOff2` is none of them (rule R87). -/
def identCode (w : List Char) : Option StateCode :=
  (stateNames.find? fun n => n.full.toList == w || n.abbr.toList == w).map (·.code)

/-- The full name of a state code. -/
def codeIdent (c : StateCode) : Option (List Char) :=
  (stateNames.find? fun n => n.code == c).map (·.full.toList)

/-! Words of a line. -/

def isPunct (c : Char) : Bool := c == '=' || c == ':' || c == '[' || c == ']' || c == ','

def flushWord (w : List Char) : List (List Char) := if w.isEmpty then [] else [w]

/-- Cut a line into words. A punctuation mark is a word of its own, and spaces only separate. `w` is the word begun. -/
def wordsFrom (w : List Char) : List Char → List (List Char)
  | [] => flushWord w
  | c :: cs =>
    if c == ' ' then flushWord w ++ wordsFrom [] cs
    else if isPunct c then flushWord w ++ [c] :: wordsFrom [] cs
    else wordsFrom (w ++ [c]) cs

def wordsOf (line : List Char) : List (List Char) := wordsFrom [] line

/-! Numbers (rule R8). -/

/-- The value of a digit in a base. -/
def digitVal (base : Nat) (c : Char) : Option Nat :=
  let v := if c.isDigit then some (c.toNat - 48)
    else if 65 ≤ c.toNat ∧ c.toNat ≤ 70 then some (c.toNat - 55)
    else if 97 ≤ c.toNat ∧ c.toNat ≤ 102 then some (c.toNat - 87)
    else none
  v.filter (· < base)

/-- The value of a run of digits, most significant first. -/
def digitsFrom (base acc : Nat) : List Char → Option Nat
  | [] => some acc
  | c :: cs => (digitVal base c).bind fun v => digitsFrom base (base * acc + v) cs

/-- At least one digit. -/
def numberOf (base : Nat) (w : List Char) : Option Nat := if w.isEmpty then none else digitsFrom base 0 w

def parseDecimal (w : List Char) : Option Nat := numberOf 10 w

/-- `0b` and exactly `n` binary digits. -/
def parseBinary (n : Nat) : List Char → Option (BitVec n)
  | '0' :: 'b' :: ds => if ds.length = n then (numberOf 2 ds).map (BitVec.ofNat n) else none
  | _ => none

/-- `0x` and hexadecimal digits. -/
def parseHex : List Char → Option Nat
  | '0' :: 'x' :: ds => numberOf 16 ds
  | _ => none

/-- The decimal digits of a number, at most `fuel` of them, before `acc`. -/
def decimalFrom : Nat → Nat → List Char → List Char
  | 0, _, acc => acc
  | fuel + 1, n, acc =>
    let acc := Char.ofNat (48 + n % 10) :: acc
    if n < 10 then acc else decimalFrom fuel (n / 10) acc

/-- A number below 100000 in decimal: every hold fits. -/
def showDecimal (n : Nat) : List Char := decimalFrom 5 n []

/-- `0b` and the bits, most significant first. -/
def showBinary {n : Nat} (v : BitVec n) : List Char :=
  '0' :: 'b' :: (List.range n).map fun i => if v.getLsbD (n - 1 - i) then '1' else '0'

/-! Table lines. -/

/-- The hold of a line: a decimal that fits 16 bits (rules R81, D7). -/
def parseHold (w : List Char) : Option Ticks :=
  (parseDecimal w).bind fun n => if n < 65536 then some (BitVec.ofNat 16 n) else none

/-- The eight successors, `[Id0, …, Id7]`. -/
def parseNexts : List (List Char) → Option (Vector StateCode 8)
  | [lb, i0, c0, i1, c1, i2, c2, i3, c3, i4, c4, i5, c5, i6, c6, i7, rb] =>
    if lb = ['['] ∧ rb = [']'] ∧ [c0, c1, c2, c3, c4, c5, c6] = List.replicate 7 [','] then
      match identCode i0, identCode i1, identCode i2, identCode i3,
            identCode i4, identCode i5, identCode i6, identCode i7 with
      | some n0, some n1, some n2, some n3, some n4, some n5, some n6, some n7 =>
        some #v[n0, n1, n2, n3, n4, n5, n6, n7]
      | _, _, _, _, _, _, _, _ => none
    else none
  | _ => none

/-- The words of a table line for the state with code `c` (rule R86). -/
def parseEntryWords (c : StateCode) : List (List Char) → Option RomEntry
  | kState :: ident :: eq :: code :: colon :: kTraffic :: tr :: kPed :: pd :: kHold :: hd :: kNext :: nexts =>
    if kState = "state".toList ∧ eq = ['='] ∧ colon = [':'] ∧ kTraffic = "traffic".toList ∧
        kPed = "ped".toList ∧ kHold = "hold".toList ∧ kNext = "next".toList ∧
        identCode ident = some c ∧ parseDecimal code = some c.toNat then
      match parseBinary 6 tr, parseBinary 2 pd, parseHold hd, parseNexts nexts with
      | some t, some p, some h, some n => some ⟨t, p, h, n⟩
      | _, _, _, _ => none
    else none
  | _ => none

/-- A table line for the state with code `c`. -/
def parseEntry (c : StateCode) (line : List Char) : Option RomEntry := parseEntryWords c (wordsOf line)

/-- A listing: nine lines in code order (rule R86). -/
def parseTable : List (List Char) → Option RomTable
  | [l0, l1, l2, l3, l4, l5, l6, l7, l8] =>
    match parseEntry 0#4 l0, parseEntry 1#4 l1, parseEntry 2#4 l2, parseEntry 3#4 l3, parseEntry 4#4 l4,
          parseEntry 5#4 l5, parseEntry 6#4 l6, parseEntry 7#4 l7, parseEntry 8#4 l8 with
    | some e0, some e1, some e2, some e3, some e4, some e5, some e6, some e7, some e8 =>
      some #v[e0, e1, e2, e3, e4, e5, e6, e7, e8]
    | _, _, _, _, _, _, _, _, _ => none
  | _ => none

/-- Names joined by a comma and a space. A code that names no state has no text. -/
def showIdents : List StateCode → Option (List Char)
  | [] => some []
  | [c] => codeIdent c
  | c :: cs => (codeIdent c).bind fun w => (showIdents cs).map fun r => w ++ ", ".toList ++ r

/-- The table line of an entry (rule R86). -/
def showEntry (c : StateCode) (e : RomEntry) : Option (List Char) :=
  (codeIdent c).bind fun name => (showIdents e.next.toList).map fun nexts =>
    "state ".toList ++ name ++ " = ".toList ++ showDecimal c.toNat ++ " : traffic ".toList ++ showBinary e.traffic ++
    " ped ".toList ++ showBinary e.ped ++ " hold ".toList ++ showDecimal e.hold.toNat ++ " next [".toList ++ nexts ++ [']']

/-! Stimulus programs. -/

/-- One drive cycle of a stimulus: the raw sensor value at its SAMPLE edge and, if the line gives it, how many strobes
its hold carries. -/
structure StimLine where
  raw   : Nat
  ticks : Option Nat
  deriving DecidableEq, Repr

/-- The sensor value of a line: `0bPNE` (rule R86) or `raw 0x..` (program P5 of 95_test_vectors.md), and what follows. -/
def parseSense : List (List Char) → Option (Nat × List (List Char))
  | kRaw :: w :: rest =>
    if kRaw = "raw".toList then (parseHex w).map fun r => (r, rest)
    else (parseBinary 3 kRaw).map fun s => (s.toNat, w :: rest)
  | [w] => (parseBinary 3 w).map fun s => (s.toNat, [])
  | [] => none

/-- `cycle <k>: sense …`, with `ticks <n>` after it or nothing. -/
def parseStimLine (k : Nat) (line : List Char) : Option StimLine :=
  match wordsOf line with
  | kCycle :: num :: colon :: kSense :: rest =>
    if kCycle = "cycle".toList ∧ parseDecimal num = some k ∧ colon = [':'] ∧ kSense = "sense".toList then
      match parseSense rest with
      | some (r, []) => some ⟨r, none⟩
      | some (r, [kTicks, n]) =>
        if kTicks = "ticks".toList then (parseDecimal n).map fun m => ⟨r, some m⟩ else none
      | _ => none
    else none
  | _ => none

/-- A stimulus: its lines are numbered from `k` on. -/
def parseStimulus (k : Nat) : List (List Char) → Option (List StimLine)
  | [] => some []
  | l :: ls => (parseStimLine k l).bind fun x => (parseStimulus (k + 1) ls).map (x :: ·)

/-- The edge inputs of one drive cycle of a state with hold `h`: the EMIT edge, the strobes of the hold, and the SAMPLE
edge, with `tick = 1` at every edge (95_test_vectors.md §3). A line with `ticks n` gives `n` strobed edges in place of `h`
and the last edge all the same; what an `n` other than `h` means is open in rule R86 and the model's choice, log entry 13. -/
def cycleInputs (h : Nat) (l : StimLine) : List EdgeInput :=
  ⟨false, true, l.raw⟩ :: (List.replicate (l.ticks.getD h) ⟨false, true, l.raw⟩ ++ [⟨false, true, l.raw⟩])

/-- The edge inputs of a stimulus that starts in state `c`. A sample of a port wider than 3 bits is masked (rule R75). Each
line is laid out as a cycle of its own, starting in the state that the drive cycles before it lead to, also after a line
whose `ticks n` is not its state's hold, where the controller itself is elsewhere: the model's choice, log entry 13. -/
def stimulusInputs (t : RomTable) : StateCode → List StimLine → List EdgeInput
  | _, [] => []
  | c, l :: ls =>
    match drive t c (maskSense (BitVec.ofNat 3 l.raw)) with
    | .ok d => cycleInputs d.hold.toNat l ++ stimulusInputs t d.next ls
    | .error _ => []

end Sys2Proof.Machine
end

