-- ==== Sys2Proof/Machine/Launch.lean ====
section
/-! DEFINITION. What the host does before a run: it supplies TABLE and starts from the post-reset state
(rules R188, R192, R214, R215). -/

namespace Sys2Proof.Machine

/-- The start of a run with parameters `p`: the post-reset state, or no run at all (rules R188, R215). -/
def launch (p : Params) : Host.Outcome State Fault Refusal :=
  match paramsRefusal p with
  | some r => .refused r
  | none => .next { State.reset with params := p }

/-- The host supplies TABLE. After reset is released the model refuses it (rules R53, R188), and it refuses a table that
does not satisfy WF. -/
def State.supplyTable (t : RomTable) (s : State) : Host.Outcome State Fault Refusal :=
  if s.released then .refused .tableFrozen
  else if wfTable t = false then .refused .malformedTable
  else .next { s with params := { s.params with table := t } }

end Sys2Proof.Machine
end

