-- ==== Sys2Proof/Machine/Observe.lean ====
section
/-! DEFINITION. The observable behaviour (rule R171): the event of an edge, traces, and the end of a bounded run. -/

namespace Sys2Proof.Machine

/-- The events of rule R171. -/
inductive Event where
  | emit (traffic : TrafficWord) (ped : PedWord)
  | count
  | sample (s : Sense)
  | reset
  | fault (cause : FaultCause)
  deriving DecidableEq, Repr

/-- The event of an EMIT edge. A faulting edge has no effect but the fault (rule R183), so its one event is the fault. -/
def emitEvent (s : State) : Event :=
  match outputsFor s.params.table s.cur with
  | .error f => .fault f
  | .ok (t, p, h) => if h = 0#16 then .fault .zeroHold else .emit t p

/-- The event of a HOLD edge: a counted tick, a fault, or nothing. -/
def holdEvent (s : State) : Option Event :=
  if s.cnt = 0#16 then some (.fault .zeroHold)
  else if s.ports.tick then some .count
  else none

/-- The event of a SAMPLE edge. -/
def sampleEvent (s : State) : Event :=
  match nextState s.params.table s.cur s.sense with
  | .error f => .fault f
  | .ok _ => .sample s.sense

/-- The event of the coming edge, if it has one. -/
def State.edgeEvent (s : State) : Option Event :=
  if s.ports.rst then some .reset
  else if s.releaseRefusal ≠ none then none
  else if s.flt ≠ 0b00#2 then none
  else if s.ph = phaseEmit then some (emitEvent s)
  else if s.ph = phaseHold then holdEvent s
  else if s.ph = phaseSample then some (sampleEvent s)
  else some (.fault .illegalPhase)

/-- `n` edges. -/
def runEdges : Nat → State → Host.Outcome State Fault Refusal
  | 0, s => .next s
  | n + 1, s =>
    match step s with
    | .next t => runEdges n t
    | .fault r => .fault r
    | .refused r => .refused r

/-- The events of the next `n` edges, each stamped with its edge number (rule R171): the first edge after the launch is
number 1, as in the vectors of 95_test_vectors.md. A later reset edge does not restart the numbers. Log entry 3. -/
def traceOf : Nat → State → List (Nat × Event)
  | 0, _ => []
  | n + 1, s =>
    let rest := match step s with
      | .next t => traceOf n t
      | .fault _ => []
      | .refused _ => []
    match s.edgeEvent with
    | some e => (s.edge + 1, e) :: rest
    | none => rest

/-- How many ticks a trace counts (rule R166). -/
def countedTicks (tr : List (Nat × Event)) : Nat := (tr.filter fun x => x.2 == .count).length

/-- The coming edge is the SAMPLE edge of a drive cycle. -/
def State.atSample (s : State) : Bool :=
  match s.edgeEvent with
  | some (.sample _) => true
  | _ => false

/-- The end of a bounded run of `n` drive cycles, the state right after its `n`-th SAMPLE edge, if `fuel` edges reach it
(rule R171). A state with `flt` set is no successful end, so a run that meets a fault has none, even when its last SAMPLE
edge is the one that faults or a later reset clears the fault. Rule R170 numbers SAMPLE edges only in runs without a reset,
so a run with a reset edge in it has none either: both are the model's choice, log entry 8. A hold that never ends has no
such state (rule R193). -/
def runCycles : Nat → Nat → State → Option State
  | _, 0, s => if s.faulted then none else some s
  | 0, _ + 1, _ => none
  | fuel + 1, n + 1, s =>
    if s.ports.rst then none
    else
      match step s with
      | .next t => if t.faulted then none else runCycles fuel (if s.atSample then n else n + 1) t
      | .fault _ => none
      | .refused _ => none

end Sys2Proof.Machine
end

