-- ==== Sys2Proof/Safety.lean ====
section
/-! DEFINITION. What counts as a safe state of the block, in the terms the statements use. -/

namespace Sys2Proof.Machine

/-- The parameters are legal, so the launch has a run (rules R7, R188, R215). -/
def State.launched (s : State) : Prop := paramsLegal s.params = true

/-- The invariant of rule R222: a launched controller that is not faulted holds a legal `cur` and `ph`, and a positive
counter in HOLD; and it is not faulted. -/
def State.Sound (s : State) : Prop :=
  s.launched ∧ s.flt = 0b00#2 ∧ s.cur.toNat ≤ 8 ∧ s.ph.toNat ≤ 2 ∧ (s.ph = phaseHold → s.cnt ≠ 0#16)

/-- The output registers show the entry of the last EMIT edge: `cur`'s own entry from EMIT to SAMPLE (rule R104), and at an
EMIT edge the reset word or the entry of a state whose successor is `cur`. -/
def State.ShowsEntry (s : State) : Prop :=
  (s.ph ≠ phaseEmit → ∃ e, romRead s.params.table s.cur = some e ∧ s.trafficQ = e.traffic ∧ s.pedQ = e.ped) ∧
  (s.ph = phaseEmit →
    (s.trafficQ = allRed ∧ s.pedQ = dontWalk) ∨
    ∃ c e x, romRead s.params.table c = some e ∧ s.trafficQ = e.traffic ∧ s.pedQ = e.ped ∧
      nextState s.params.table c x = .ok s.cur)

/-- One lamp per direction, never both greens, never walk and don't-walk together (rules R77, R79, R109). -/
def State.LampsLegal (s : State) : Prop := legalTraffic s.trafficOut = true ∧ legalPed s.pedOut = true

/-- The next edge is no reset edge and belongs to a launch that has a run. -/
def State.Runs (s : State) : Prop := s.ports.rst = false ∧ s.releaseRefusal = none

/-- No input of the list asserts `rst`. -/
def noReset (l : List EdgeInput) : Prop := ∀ i ∈ l, i.rst = false

/-- How many inputs of the list strobe `tick`. -/
def strobes (l : List EdgeInput) : Nat := (l.filter (·.tick)).length

/-- The two states agree in the six registers of rules R27 to R32. -/
def State.sameRegs (s t : State) : Prop :=
  t.cur = s.cur ∧ t.ph = s.ph ∧ t.cnt = s.cnt ∧ t.trafficQ = s.trafficQ ∧ t.pedQ = s.pedQ ∧ t.flt = s.flt

/-- The instruction `i` executes the entry `(tr, p, h, succ)` in every state whose TABLE is `t`: at EMIT it drives the
outputs and loads the hold, at HOLD it counts the tick, at SAMPLE it selects the successor, and it changes nothing else
(rules R83, R162 to R164). -/
def RunsEntry (i : Instr) (t : RomTable) (tr : TrafficWord) (p : PedWord) (h : Ticks) (succ : Sense → StateCode) : Prop :=
  ∀ s : State, s.params.table = t →
    (s.ph = phaseEmit → exec i s = .next { s with trafficQ := tr, pedQ := p, cnt := h, ph := phaseHold }) ∧
    (s.ph = phaseHold → s.cnt ≠ 0#16 → s.ports.tick = true →
      exec i s = .next { s with cnt := s.cnt - 1#16, ph := if s.cnt = 1#16 then phaseSample else phaseHold }) ∧
    (s.ph = phaseHold → s.cnt ≠ 0#16 → s.ports.tick = false → exec i s = .next s) ∧
    (s.ph = phaseSample → exec i s = .next { s with cur := succ s.sense, ph := phaseEmit })

/-- The inputs `l` carry the controller from the EMIT edge of a cycle in state `c` through one drive cycle for each sample of
`xs` to state `c'` (rule R170): a cycle is its EMIT edge, its hold with as many strobes as the entry's hold, the last of
them at the edge before the SAMPLE edge, and its SAMPLE edge, with no reset. `w` is `SENSOR_RAW_W`. -/
inductive FollowsDrive (w : Nat) (t : RomTable) : StateCode → List Sense → List EdgeInput → StateCode → Prop
  | nil (c : StateCode) : FollowsDrive w t c [] [] c
  | cycle {c c' : StateCode} {d : DriveCycle} {x : Sense} {xs : List Sense} {e last z : EdgeInput}
      {l rest : List EdgeInput} (cell : drive t c x = .ok d)
      (quiet : noReset (e :: (l ++ [last, z]))) (full : strobes l + 1 = d.hold.toNat) (ends : last.tick = true)
      (sampled : maskSense (BitVec.ofNat w z.sensorRaw) = x) (more : FollowsDrive w t d.next xs rest c') :
      FollowsDrive w t c (x :: xs) (e :: (l ++ last :: z :: rest)) c'

end Sys2Proof.Machine
end

