-- ==== Sys2Proof/Certificates/Slice0/Obligations.lean ====
section
/-! DEFINITION. The statements for the provers. Each holds for every configuration unless it names one. -/

open Sys2Proof Sys2Proof.Machine

/-! ## Reset and launch -/

/-- Rule R40: the six registers of the state that follows an edge with `rst = 1`, and that the model starts in it. -/
def Obligations.PostResetRegisters : Prop :=
  (State.reset.cur = 0x0#4 ∧ State.reset.ph = 0b00#2 ∧ State.reset.cnt = 0#16 ∧ State.reset.trafficQ = 0b100100#6 ∧
    State.reset.pedQ = 0b10#2 ∧ State.reset.flt = 0b00#2) ∧
  ∀ s : State, s.ports.rst = true → ∃ t, step s = .next t ∧
    t.cur = 0x0#4 ∧ t.ph = 0b00#2 ∧ t.cnt = 0#16 ∧ t.trafficQ = 0b100100#6 ∧ t.pedQ = 0b10#2 ∧ t.flt = 0b00#2

/-- Rules R22 and R210: an edge with `rst = 1` loads every reset value, whatever the state, and changes no parameter. Around
it the model's own fields record the edge (log entry 3). -/
def Obligations.ResetEdgeLoadsResetValues : Prop :=
  ∀ s : State, s.ports.rst = true →
    step s = .next
      { s with
        cur := 0x0#4, ph := 0b00#2, cnt := 0#16, trafficQ := 0b100100#6, pedQ := 0b10#2, flt := 0b00#2
        inputs := s.inputs.tail, edge := s.edge + 1 }

/-- Rule R211: reset may be held for any number of edges, each repeats the reset action whatever `ph` and `flt` hold, and
the first edge with `rst = 0` of a legal launch is an EMIT edge. -/
def Obligations.ResetMayBeHeld : Prop :=
  ∀ (s : State) (l rest : List EdgeInput), l ≠ [] → (∀ i ∈ l, i.rst = true) → s.inputs = l ++ rest →
    ∃ t, runEdges l.length s = .next t ∧ State.reset.sameRegs t ∧ t.params = s.params ∧ t.inputs = rest ∧
      (t.ports.rst = false → s.launched → step t = mapNext (fun u => u.release.endEdge) (exec .emit t))

/-- Rule R213: before the first edge with `rst = 0` the ports show all red and don't-walk, and that edge performs EMIT for
GoNorthSouth. -/
def Obligations.FirstEdgeEmitsGoNorthSouth : Prop :=
  ∀ s : State, State.reset.sameRegs s → s.ports.rst = false → s.launched → s.params.table = defaultTable →
    s.trafficOut = 0b100100#6 ∧ s.pedOut = 0b10#2 ∧
    step s = .next
      { s with
        trafficQ := 0x21#6, pedQ := 0b10#2, cnt := 600#16, ph := phaseHold
        released := true, inputs := s.inputs.tail, edge := s.edge + 1 }

/-- Rule R188: a launch with a malformed TABLE has no run, and TABLE cannot be changed after reset is released. -/
def Obligations.MalformedTableIsRefused : Prop :=
  (∀ p : Params, wfTable p.table = false → launch p = .refused .malformedTable) ∧
  (∀ s : State, s.ports.rst = false → s.released = false → wfTable s.params.table = false →
    step s = .refused .malformedTable) ∧
  (∀ (s : State) (t : RomTable), wfTable t = false →
    ∃ r, s.supplyTable t = .refused r) ∧
  (∀ (s : State) (t : RomTable), s.released = true → s.supplyTable t = .refused .tableFrozen)

/-- Rules R7, R188, R215: a launch with legal parameters starts in the post-reset state with those parameters. -/
def Obligations.LegalLaunchStartsPostReset : Prop :=
  ∀ p : Params, wfTable p.table = true → 3 ≤ p.sensorRawW → p.tickPeriod.positive = true →
    ∃ s, launch p = .next s ∧ State.reset.sameRegs s ∧ s.params = p ∧ s.Sound

/-- A step stops only at the edge that first releases reset, and only for parameters that are not legal. -/
def Obligations.StepStopsOnlyAtRelease : Prop :=
  ∀ s : State, (∀ t, step s ≠ .next t) →
    s.ports.rst = false ∧ s.released = false ∧ ∃ r, paramsRefusal s.params = some r ∧ step s = .refused r

/-! ## Decoding and encoding -/

/-- Words written out from rules R71 and R73, the whole of both code tables, decode to the instructions they stand for. -/
def Obligations.WrittenWordsDecode : Prop :=
  decode (.state4 0b0000#4) = .ok .goNorthSouth ∧ decode (.state4 0b0001#4) = .ok .waitNorthSouth ∧
  decode (.state4 0b0010#4) = .ok .goEastWest ∧ decode (.state4 0b0011#4) = .ok .waitEastWest ∧
  decode (.state4 0b0100#4) = .ok .goPedestrian ∧ decode (.state4 0b0101#4) = .ok .walkOnPhase1 ∧
  decode (.state4 0b0110#4) = .ok .walkOffPhase1 ∧ decode (.state4 0b0111#4) = .ok .walkOnPhase2 ∧
  decode (.state4 0b1000#4) = .ok .walkOffPhase2 ∧
  decode (.phase2 0b00#2) = .ok .emit ∧ decode (.phase2 0b01#2) = .ok .hold ∧ decode (.phase2 0b10#2) = .ok .sample

/-- Rules R71, R73, R83: every instruction decodes from its encoding, and a word that decodes is its instruction's
encoding. -/
def Obligations.DecodeAndEncodeAgree : Prop :=
  (∀ i : Instr, decode (encode i) = .ok i) ∧ (∀ (w : CodeWord) (i : Instr), decode w = .ok i → encode i = w)

/-- Rules R72, R73, R84: state codes 9..15 and phase code 0b11 decode to nothing, and are rejected by name. -/
def Obligations.IllegalCodesAreRejected : Prop :=
  (∀ c : StateCode, 8 < c.toNat → decode (.state4 c) = .error (.illegalStateCode c)) ∧
  decode (.phase2 0b11#2) = .error (.illegalPhaseCode 0b11#2)

/-- Rule R80: where each field of an entry lies in its ROM56 word. -/
def Obligations.Rom56FieldPositions : Prop :=
  ∀ e : RomEntry,
    (packEntry e).extractLsb' 50 6 = e.traffic ∧ (packEntry e).extractLsb' 48 2 = e.ped ∧
    (packEntry e).extractLsb' 32 16 = e.hold ∧
    ∀ x : Sense, (packEntry e).extractLsb' (4 * x.toNat) 4 = entryNext e x

/-- Rule R80: the packing loses no bit in either direction. -/
def Obligations.Rom56RoundTrip : Prop :=
  (∀ e : RomEntry, unpackEntry (packEntry e) = e) ∧ (∀ w : RomWord, packEntry (unpackEntry w) = w)

/-- Rules R82 and R114: the default TABLE in packed form, word by word, and it is well-formed, so the model's launch state
(log entry 2) has legal parameters. -/
def Obligations.DefaultTablePackedWords : Prop :=
  wfTable defaultTable = true ∧ paramsLegal State.reset.params = true ∧ State.reset.params.table = defaultTable ∧
  defaultTable.toList.map packEntry =
    [0x86025811111010#56, 0x8A00C844442222#56, 0x32025833333322#56, 0x5200C800440000#56, 0x91025855545554#56,
       0x92003266666666#56, 0x90003277777777#56, 0x92003288888888#56, 0x90003200200020#56]

/-- Rule R75: the index is the sample masked to three bits, 4P + 2N + E, for every width of the raw port. -/
def Obligations.SenseIsMaskedToThreeBits : Prop :=
  ∀ s : State, 3 ≤ s.params.sensorRawW →
    s.sense.toNat = s.ports.sensorRaw % 8 ∧
    s.sense.toNat = 4 * (senseP s.sense).toNat + 2 * (senseN s.sense).toNat + (senseE s.sense).toNat

/-- Rule R86: the listing of a TABLE, written line by line, reads back as the same TABLE. -/
def Obligations.ListingRoundTrip : Prop :=
  ∀ t : RomTable, noDangling t = true →
    ∃ lines : List (List Char), lines.length = 9 ∧
      (∀ c : StateCode, c.toNat ≤ 8 → (romRead t c).bind (showEntry c) = lines[c.toNat]?) ∧
      parseTable lines = some t

/-- Rules R86 and R87: a word names the state with code `c` exactly if it is that state's full name (rule R71) or its
abbreviation (rule R13), as written out here; the name `WaitPhaseOff2` is not accepted. -/
def Obligations.AliasIsNotAccepted : Prop :=
  identCode "WaitPhaseOff2".toList = none ∧
  ∀ (w : List Char) (c : StateCode), identCode w = some c ↔
    ∃ row ∈ [("GoNorthSouth", "GoNS", 0b0000#4), ("WaitNorthSouth", "WaitNS", 0b0001#4),
        ("GoEastWest", "GoEW", 0b0010#4), ("WaitEastWest", "WaitEW", 0b0011#4), ("GoPedestrian", "GoPed", 0b0100#4),
        ("WalkOnPhase1", "WOn1", 0b0101#4), ("WalkOffPhase1", "WOff1", 0b0110#4), ("WalkOnPhase2", "WOn2", 0b0111#4),
        ("WalkOffPhase2", "WOff2", 0b1000#4)],
      row.2.2 = c ∧ (w = row.1.toList ∨ w = row.2.1.toList)

/-! ## The state words -/

/-- Rule R122 and the phases of rules R162 to R164: the row, that it is the reset state, and that it is the tie default of
WalkOffPhase2.
The word runs its own entry whatever `cur` holds: the model's choice, log entry 7. -/
def Obligations.GoNorthSouthRow : Prop :=
  decode (.state4 0b0000#4) = .ok .goNorthSouth ∧
  (romRead defaultTable 0b0000#4).map packEntry = some 0x86025811111010#56 ∧
  RunsEntry .goNorthSouth defaultTable 0b100001#6 0b10#2 600#16
    (fun x => if senseP x = false ∧ senseE x = false then 0#4 else 1#4) ∧
  State.reset.cur = codeGoNorthSouth ∧ nextState defaultTable codeWalkOffPhase2 0b011#3 = .ok codeGoNorthSouth

/-- Rule R123 and the phases of rules R162 to R164.
The word runs its own entry whatever `cur` holds: the model's choice, log entry 7. -/
def Obligations.WaitNorthSouthRow : Prop :=
  decode (.state4 0b0001#4) = .ok .waitNorthSouth ∧
  (romRead defaultTable 0b0001#4).map packEntry = some 0x8A00C844442222#56 ∧
  RunsEntry .waitNorthSouth defaultTable 0b100010#6 0b10#2 200#16
    fun x => if senseP x = true then 4#4 else 2#4

/-- Rule R124 and the phases of rules R162 to R164.
The word runs its own entry whatever `cur` holds: the model's choice, log entry 7. -/
def Obligations.GoEastWestRow : Prop :=
  decode (.state4 0b0010#4) = .ok .goEastWest ∧
  (romRead defaultTable 0b0010#4).map packEntry = some 0x32025833333322#56 ∧
  RunsEntry .goEastWest defaultTable 0b001100#6 0b10#2 600#16
    fun x => if senseP x = false ∧ senseN x = false then 2#4 else 3#4

/-- Rule R125 and the phases of rules R162 to R164.
The word runs its own entry whatever `cur` holds: the model's choice, log entry 7. -/
def Obligations.WaitEastWestRow : Prop :=
  decode (.state4 0b0011#4) = .ok .waitEastWest ∧
  (romRead defaultTable 0b0011#4).map packEntry = some 0x5200C800440000#56 ∧
  RunsEntry .waitEastWest defaultTable 0b010100#6 0b10#2 200#16
    fun x => if senseP x = true ∧ senseN x = false then 4#4 else 0#4

/-- Rule R140 and the phases of rules R162 to R164: the row, that no other state lights walk, and where it is entered from.
The word runs its own entry whatever `cur` holds: the model's choice, log entry 7. -/
def Obligations.GoPedestrianRow : Prop :=
  decode (.state4 0b0100#4) = .ok .goPedestrian ∧
  (romRead defaultTable 0b0100#4).map packEntry = some 0x91025855545554#56 ∧
  RunsEntry .goPedestrian defaultTable 0b100100#6 0b01#2 600#16
    (fun x => if senseN x = false ∧ senseE x = false then 4#4 else 5#4) ∧
  (∀ c e, romRead defaultTable c = some e → lampWalk e.ped = true → c = codeGoPedestrian) ∧
  (∀ c x, nextState defaultTable c x = .ok codeGoPedestrian →
    c = codeWaitNorthSouth ∨ c = codeWaitEastWest ∨ c = codeGoPedestrian)

/-- Rule R142 and the phases of rules R162 to R164: the row, and that it is entered only from GoPedestrian.
The word runs its own entry whatever `cur` holds: the model's choice, log entry 7. -/
def Obligations.WalkOnPhase1Row : Prop :=
  decode (.state4 0b0101#4) = .ok .walkOnPhase1 ∧
  (romRead defaultTable 0b0101#4).map packEntry = some 0x92003266666666#56 ∧
  RunsEntry .walkOnPhase1 defaultTable 0b100100#6 0b10#2 50#16 (fun _ => 6#4) ∧
  (∀ c x, nextState defaultTable c x = .ok codeWalkOnPhase1 → c = codeGoPedestrian)

/-- Rule R143 and the phases of rules R162 to R164.
The word runs its own entry whatever `cur` holds: the model's choice, log entry 7. -/
def Obligations.WalkOffPhase1Row : Prop :=
  decode (.state4 0b0110#4) = .ok .walkOffPhase1 ∧
  (romRead defaultTable 0b0110#4).map packEntry = some 0x90003277777777#56 ∧
  RunsEntry .walkOffPhase1 defaultTable 0b100100#6 0b00#2 50#16 fun _ => 7#4

/-- Rule R144 and the phases of rules R162 to R164.
The word runs its own entry whatever `cur` holds: the model's choice, log entry 7. -/
def Obligations.WalkOnPhase2Row : Prop :=
  decode (.state4 0b0111#4) = .ok .walkOnPhase2 ∧
  (romRead defaultTable 0b0111#4).map packEntry = some 0x92003288888888#56 ∧
  RunsEntry .walkOnPhase2 defaultTable 0b100100#6 0b10#2 50#16 fun _ => 8#4

/-- Rule R145 and the phases of rules R162 to R164.
The word runs its own entry whatever `cur` holds: the model's choice, log entry 7. -/
def Obligations.WalkOffPhase2Row : Prop :=
  decode (.state4 0b1000#4) = .ok .walkOffPhase2 ∧
  (romRead defaultTable 0b1000#4).map packEntry = some 0x90003200200020#56 ∧
  RunsEntry .walkOffPhase2 defaultTable 0b100100#6 0b00#2 50#16
    fun x => if senseE x = true ∧ senseN x = false then 2#4 else 0#4

/-- Rule R83 and the phases of rules R162 to R165: whatever TABLE holds, a state word executes the entry at its own code, the
phase selecting the fields; a field that the phase does not use does not matter. That it does so whatever `cur` holds is the
model's choice, log entry 7. -/
def Obligations.StateWordExecutesItsEntry : Prop :=
  ∀ (i : Instr) (c : StateCode) (e : RomEntry) (s : State), decode (.state4 c) = .ok i →
    romRead s.params.table c = some e →
    (s.ph = phaseEmit → e.hold ≠ 0#16 →
      exec i s = .next { s with trafficQ := e.traffic, pedQ := e.ped, cnt := e.hold, ph := phaseHold }) ∧
    (s.ph = phaseEmit → e.hold = 0#16 → exec i s = .next { s with flt := 0b11#2 }) ∧
    (s.ph = phaseHold → exec i s = exec .hold s) ∧
    (s.ph = phaseSample → (entryNext e s.sense).toNat ≤ 8 →
      exec i s = .next { s with cur := entryNext e s.sense, ph := phaseEmit }) ∧
    (s.ph = phaseSample → 8 < (entryNext e s.sense).toNat → exec i s = .next { s with flt := 0b01#2 }) ∧
    (s.ph = 0b11#2 → exec i s = .next { s with flt := 0b10#2 })

/-! ## The phases -/

/-- Rule R162. -/
def Obligations.EmitEdge : Prop :=
  ∀ s : State,
    (8 < s.cur.toNat → exec .emit s = .next { s with flt := 0b01#2 }) ∧
    ∀ e, romRead s.params.table s.cur = some e →
      (e.hold = 0#16 → exec .emit s = .next { s with flt := 0b11#2 }) ∧
      (e.hold ≠ 0#16 →
        exec .emit s = .next { s with trafficQ := e.traffic, pedQ := e.ped, cnt := e.hold, ph := 0b01#2 })

/-- Rule R163. -/
def Obligations.HoldEdge : Prop :=
  ∀ s : State,
    (s.cnt = 0#16 → exec .hold s = .next { s with flt := 0b11#2 }) ∧
    (s.cnt ≠ 0#16 → s.ports.tick = true →
      exec .hold s = .next { s with cnt := s.cnt - 1#16, ph := if s.cnt = 1#16 then 0b10#2 else s.ph }) ∧
    (s.cnt ≠ 0#16 → s.ports.tick = false → exec .hold s = .next s)

/-- Rule R164. -/
def Obligations.SampleEdge : Prop :=
  ∀ s : State,
    (8 < s.cur.toNat → exec .sample s = .next { s with flt := 0b01#2 }) ∧
    ∀ e, romRead s.params.table s.cur = some e →
      (8 < (entryNext e s.sense).toNat → exec .sample s = .next { s with flt := 0b01#2 }) ∧
      ((entryNext e s.sense).toNat ≤ 8 →
        exec .sample s = .next { s with cur := entryNext e s.sense, ph := 0b00#2 })

/-- Rule R165: phase 0b11 raises IllegalPhase and changes nothing else, and no step writes it. -/
def Obligations.IllegalPhaseRaisesFault : Prop :=
  (∀ s : State, s.Runs → s.flt = 0b00#2 → s.ph = 0b11#2 →
    step s = .next { s with flt := 0b10#2, released := true, inputs := s.inputs.tail, edge := s.edge + 1 }) ∧
  (∀ s t : State, step s = .next t → t.ph = 0b11#2 → s.ph = 0b11#2 ∧ s.ports.rst = false)

/-- Rule R161: reset first, then the faulted controller, then the micro-operation that the phase decodes to. Around `exec`
a step only ends the edge. -/
def Obligations.StepRunsDecodedPhase : Prop :=
  ∀ s : State,
    (s.ports.rst = true → step s = .next s.doReset.endEdge) ∧
    (s.Runs → s.flt ≠ 0b00#2 → step s = .next s.release.endEdge) ∧
    (s.Runs → s.flt = 0b00#2 → ∀ i, decode (.phase2 s.ph) = .ok i →
      step s = mapNext (fun t => t.release.endEdge) (exec i s)) ∧
    (s.Runs → s.flt = 0b00#2 → (∀ i, decode (.phase2 s.ph) ≠ .ok i) →
      step s = .next (s.takeFault .illegalPhase).release.endEdge)

/-- Rules R34 and R83: `cur` is the program counter, and a step also runs the state word that `cur` decodes to. -/
def Obligations.StepRunsDecodedStateWord : Prop :=
  ∀ (s : State) (i : Instr), s.Runs → s.flt = 0b00#2 → decode (.state4 s.cur) = .ok i →
    step s = mapNext (fun t => t.release.endEdge) (exec i s)

/-- Rule R167: `cnt` takes the reset value, an entry's hold, or exactly one less, and never wraps. -/
def Obligations.CounterArithmetic : Prop :=
  ∀ s t : State, step s = .next t → t.cnt ≠ s.cnt →
    (s.ports.rst = true ∧ t.cnt = 0#16) ∨
    (s.ph = phaseEmit ∧ ∃ e, romRead s.params.table s.cur = some e ∧ t.cnt = e.hold) ∨
    (s.ph = phaseHold ∧ s.ports.tick = true ∧ t.cnt.toNat + 1 = s.cnt.toNat ∧ t.cnt.toNat ≤ 65534)

/-! ## Faults -/

/-- Rule R182: exactly when an edge detects each fault. -/
def Obligations.FaultDetectionPoints : Prop :=
  ∀ s t : State, s.Runs → s.flt = 0b00#2 → step s = .next t →
    (t.flt = 0b10#2 ↔ s.ph = 0b11#2) ∧
    (t.flt = 0b01#2 ↔
      ((s.ph = phaseEmit ∨ s.ph = phaseSample) ∧ 8 < s.cur.toNat) ∨
      (s.ph = phaseSample ∧ ∃ e, romRead s.params.table s.cur = some e ∧ 8 < (entryNext e s.sense).toNat)) ∧
    (t.flt = 0b11#2 ↔
      (s.ph = phaseEmit ∧ ∃ e, romRead s.params.table s.cur = some e ∧ e.hold = 0#16) ∨
      (s.ph = phaseHold ∧ s.cnt = 0#16))

/-- Rule R183: the edge that enters a fault writes `flt` and nothing else; from then on, while `rst = 0`, every edge leaves
all registers unchanged, and the ports show all red and don't-walk. -/
def Obligations.FaultEntryAndQuiescence : Prop :=
  (∀ s t : State, s.flt = 0b00#2 → step s = .next t → t.flt ≠ 0b00#2 →
    t = { s with flt := t.flt, released := true, inputs := s.inputs.tail, edge := s.edge + 1 }) ∧
  (∀ (s : State) (l rest : List EdgeInput), s.flt ≠ 0b00#2 → s.releaseRefusal = none → noReset l →
    s.inputs = l ++ rest → ∃ t, runEdges l.length s = .next t ∧ s.sameRegs t) ∧
  (∀ s : State, s.flt ≠ 0b00#2 → s.trafficOut = 0b100100#6 ∧ s.pedOut = 0b10#2)

/-- Rule R184: the order of the checks, reset before all of them, and the first code is kept. -/
def Obligations.FaultPriority : Prop :=
  ∀ s t : State, step s = .next t →
    (s.ports.rst = true → t.flt = 0b00#2) ∧
    (s.Runs → s.flt ≠ 0b00#2 → t.flt = s.flt) ∧
    (s.Runs → s.flt = 0b00#2 → s.ph = 0b11#2 → t.flt = 0b10#2) ∧
    (s.Runs → s.flt = 0b00#2 → s.ph = phaseEmit → 8 < s.cur.toNat → t.flt = 0b01#2) ∧
    (s.Runs → s.flt = 0b00#2 → s.ph = phaseSample → 8 < s.cur.toNat → t.flt = 0b01#2) ∧
    (s.Runs → s.flt = 0b00#2 → ∀ e, romRead s.params.table s.cur = some e →
      (s.ph = phaseEmit → e.hold = 0#16 → t.flt = 0b11#2) ∧
      (s.ph = phaseSample → 8 < (entryNext e s.sense).toNat → t.flt = 0b01#2))

/-- Rule R185: only a reset edge clears `flt`, and it restarts the machine at GoNorthSouth with every register reset. -/
def Obligations.OnlyResetLeavesFault : Prop :=
  ∀ s t : State, s.flt ≠ 0b00#2 → step s = .next t → t.flt ≠ s.flt →
    s.ports.rst = true ∧ State.reset.sameRegs t ∧ t.cur = codeGoNorthSouth

/-- Rules R25 and R26: the ports follow the output registers, and are overridden under a fault. -/
def Obligations.PortsUnderFault : Prop :=
  ∀ s : State,
    (s.flt = 0b00#2 → s.trafficOut = s.trafficQ ∧ s.pedOut = s.pedQ) ∧
    (s.flt ≠ 0b00#2 → s.trafficOut = 0b100100#6 ∧ s.pedOut = 0b10#2) ∧
    (lampDontWalk 0b10#2 = true ∧ lampWalk 0b10#2 = false)

/-! ## Who writes what -/

/-- Rules R27 and R41: `cur` changes only at a reset edge or at a SAMPLE edge, there to the looked-up successor. -/
def Obligations.CurHasOneWriter : Prop :=
  ∀ s t : State, step s = .next t → t.cur ≠ s.cur →
    s.ports.rst = true ∨
    (s.flt = 0b00#2 ∧ s.ph = phaseSample ∧ nextState s.params.table s.cur s.sense = .ok t.cur)

/-- Rule R219: the ports change only at EMIT edges, at reset, or when a fault is entered. -/
def Obligations.PortsChangeOnlyAt : Prop :=
  ∀ s t : State, step s = .next t → ¬ (t.trafficOut = s.trafficOut ∧ t.pedOut = s.pedOut) →
    s.ports.rst = true ∨ (s.flt = 0b00#2 ∧ s.ph = phaseEmit) ∨ (s.flt = 0b00#2 ∧ t.flt ≠ 0b00#2)

/-- Rules R38 and R53: no instruction and no step changes TABLE or another parameter. Every instruction answers a next state
because the model takes a fault as one (log entry 1), and none touches the model's own fields (log entries 3 and 4). -/
def Obligations.ConfigurationNeverChanges : Prop :=
  (∀ (i : Instr) (s : State), ∃ t, exec i s = .next t ∧
    t.params = s.params ∧ t.released = s.released ∧ t.inputs = s.inputs ∧ t.edge = s.edge) ∧
  (∀ s t : State, step s = .next t → t.params = s.params)

/-- Rules R24, R56 and R104: except at a SAMPLE edge, the sensor value does not matter. -/
def Obligations.SensorReadOnlyAtSample : Prop :=
  ∀ (s : State) (i j : EdgeInput) (l : List EdgeInput), i.rst = j.rst → i.tick = j.tick → s.ph ≠ phaseSample →
    step { s with inputs := i :: l } = step { s with inputs := j :: l }

/-- Rules R163, R166 and R220: except at a HOLD edge, the tick strobe does not matter. -/
def Obligations.TickReadOnlyInHold : Prop :=
  ∀ (s : State) (i j : EdgeInput) (l : List EdgeInput), i.rst = j.rst → i.sensorRaw = j.sensorRaw →
    s.ph ≠ phaseHold → step { s with inputs := i :: l } = step { s with inputs := j :: l }

/-- Rule R187: raw bits above bit 2 change nothing, so an out-of-range value is no fault. -/
def Obligations.HighSensorBitsDoNotMatter : Prop :=
  ∀ (s : State) (i j : EdgeInput) (l : List EdgeInput), 3 ≤ s.params.sensorRawW → i.rst = j.rst → i.tick = j.tick →
    i.sensorRaw % 8 = j.sensorRaw % 8 →
    step { s with inputs := i :: l } = step { s with inputs := j :: l }

/-- Rule R171: the event of an edge says what the edge did. -/
def Obligations.EventsReportTheEdge : Prop :=
  ∀ s t : State, step s = .next t →
    (s.edgeEvent = some .reset → State.reset.sameRegs t) ∧
    (∀ tr p, s.edgeEvent = some (.emit tr p) → t.trafficOut = tr ∧ t.pedOut = p ∧ t.ph = phaseHold) ∧
    (s.edgeEvent = some .count → t.cnt.toNat + 1 = s.cnt.toNat) ∧
    (∀ x, s.edgeEvent = some (.sample x) → x = s.sense ∧ nextState s.params.table s.cur x = .ok t.cur) ∧
    (∀ f, s.edgeEvent = some (.fault f) → t.flt = faultCode f) ∧
    (s.edgeEvent = none → s.sameRegs t)

/-! ## Invariants -/

/-- The base case of both invariants: every launch that has a run starts in a state that satisfies the invariant of rule R222
and shows the reset outputs, whatever its TABLE and other parameters. So does `State.reset`, whose parameters are the defaults
of log entry 2. -/
def Obligations.ResetIsSound : Prop :=
  (State.reset.Sound ∧ State.reset.ShowsEntry) ∧
  ∀ (p : Params) (s : State), launch p = .next s → s.params = p ∧ s.Sound ∧ s.ShowsEntry

/-- Rule R222: from every state that satisfies the invariant an edge leads to a state that satisfies it, so no fault is
raised and nothing is refused. -/
def Obligations.StepKeepsSound : Prop := ∀ s : State, s.Sound → ∃ t, step s = .next t ∧ t.Sound

/-- Rules R30, R31 and R104: the output registers show the entry of the last EMIT edge. -/
def Obligations.StepKeepsShowsEntry : Prop :=
  ∀ s t : State, s.Sound → s.ShowsEntry → step s = .next t → t.ShowsEntry

/-- Rules R77, R79 and R109 at the ports: one lamp per direction, never both greens, never both pedestrian lamps, in a
fault too. -/
def Obligations.LampsAreLegal : Prop :=
  ∀ s : State, (s.Sound ∧ s.ShowsEntry) ∨ s.flt ≠ 0b00#2 → s.LampsLegal

/-- Rule R110 at the ports: no edge takes a green of one direction to a green of the other. -/
def Obligations.NoGreenToGreenEdge : Prop :=
  ∀ s t : State, s.Sound → s.ShowsEntry → step s = .next t → noCrossGreen s.trafficOut t.trafficOut = true

/-! ## Runs -/

/-- Rule R166: in HOLD with `n` ticks left, fewer than `n` strobes leave `n` less that many, and the strobe that makes `n`
leads to SAMPLE; the sensor does not matter. -/
def Obligations.HoldIsExact : Prop :=
  ∀ (s : State) (l rest : List EdgeInput), s.flt = 0b00#2 → s.releaseRefusal = none → s.ph = phaseHold →
    noReset l → s.inputs = l ++ rest →
    (strobes l < s.cnt.toNat →
      runEdges l.length s = .next
        { s with cnt := s.cnt - BitVec.ofNat 16 (strobes l), released := s.released || !l.isEmpty
                 inputs := rest, edge := s.edge + l.length }) ∧
    (∀ (m : List EdgeInput) (i : EdgeInput), l = m ++ [i] → i.tick = true → strobes l = s.cnt.toNat →
      runEdges l.length s = .next
        { s with cnt := 0#16, ph := phaseSample, released := true
                 inputs := rest, edge := s.edge + l.length })

/-- Rule R170: a run over the inputs of any number of drive cycles ends where the drive-cycle abstraction says, at the
EMIT edge of the next cycle. The list of inputs and the edge number are the model's own (log entry 3). -/
def Obligations.RunFollowsDriveCycles : Prop :=
  ∀ (s : State) (xs : List Sense) (l rest : List EdgeInput) (c : StateCode), s.flt = 0b00#2 →
    s.releaseRefusal = none → s.ph = phaseEmit → FollowsDrive s.params.sensorRawW s.params.table s.cur xs l c →
    s.inputs = l ++ rest →
    driveTo s.params.table s.cur xs = some c ∧
    ∃ t, runEdges l.length s = .next t ∧ t.cur = c ∧ t.ph = phaseEmit ∧ t.flt = 0b00#2 ∧ t.params = s.params ∧
      t.inputs = rest ∧ t.edge = s.edge + l.length

/-- Rules R169 and R170, one cycle: from its EMIT edge to just before the next one, the ports show the entry's outputs. -/
def Obligations.CycleOutputsAreConstant : Prop :=
  ∀ (s : State) (x : Sense) (l rest : List EdgeInput) (c : StateCode) (e : RomEntry) (m : Nat), s.flt = 0b00#2 →
    s.releaseRefusal = none → s.ph = phaseEmit → FollowsDrive s.params.sensorRawW s.params.table s.cur [x] l c →
    romRead s.params.table s.cur = some e → s.inputs = l ++ rest → 1 ≤ m → m ≤ l.length →
    ∃ t, runEdges m s = .next t ∧ t.trafficOut = e.traffic ∧ t.pedOut = e.ped

/-- Rule R223: with `tick = 1` at every edge a cycle takes exactly `hold + 2` edges. -/
def Obligations.ShortestCycleLength : Prop :=
  ∀ (s : State) (e : RomEntry) (l rest : List EdgeInput), s.flt = 0b00#2 → s.releaseRefusal = none →
    s.ph = phaseEmit → romRead s.params.table s.cur = some e → e.hold ≠ 0#16 → noDangling s.params.table = true →
    noReset l → (∀ i ∈ l, i.tick = true) → l.length = e.hold.toNat + 2 → s.inputs = l ++ rest →
    (∃ t, runEdges l.length s = .next t ∧ t.ph = phaseEmit ∧ t.flt = 0b00#2) ∧
    ∀ m, 1 ≤ m → m < l.length → ∃ t, runEdges m s = .next t ∧ t.ph ≠ phaseEmit

/-- Rule R223: with single-edge strobes every `P` clocks, P at least 3, a cycle after the first, whose predecessor counted its
last tick two edges before, takes exactly `hold * P` edges. -/
def Obligations.PulsedCycleLength : Prop :=
  ∀ (s : State) (e : RomEntry) (P raw : Nat) (rest : List EdgeInput), 3 ≤ P → s.flt = 0b00#2 →
    s.releaseRefusal = none → s.ph = phaseEmit → romRead s.params.table s.cur = some e → e.hold ≠ 0#16 →
    noDangling s.params.table = true →
    s.inputs = (List.range (e.hold.toNat * P)).map (fun j => ⟨false, (j + 2) % P == 0, raw⟩) ++ rest →
    (∃ t, runEdges (e.hold.toNat * P) s = .next t ∧ t.ph = phaseEmit ∧ t.flt = 0b00#2) ∧
    ∀ m, 1 ≤ m → m < e.hold.toNat * P → ∃ t, runEdges m s = .next t ∧ t.ph ≠ phaseEmit

/-- Rule R146 for the default TABLE: from the EMIT edge of WalkOnPhase1, as long as fewer than 200 ticks are counted, the
controller is in a blink state, and in the k-th of them only when k times 50 ticks are counted and no more than 50 further. -/
def Obligations.ClearanceIsNotCutShort : Prop :=
  ∀ (s : State) (l rest : List EdgeInput), s.flt = 0b00#2 → s.releaseRefusal = none →
    s.params.table = defaultTable → s.ph = phaseEmit → s.cur = codeWalkOnPhase1 → noReset l → s.inputs = l ++ rest →
    countedTicks (traceOf l.length s) < 200 →
    ∃ t, runEdges l.length s = .next t ∧ 5 ≤ t.cur.toNat ∧ t.cur.toNat ≤ 8 ∧
      50 * (t.cur.toNat - 5) ≤ countedTicks (traceOf l.length s) ∧
      countedTicks (traceOf l.length s) ≤ 50 * (t.cur.toNat - 5) + 50 ∧
      (l ≠ [] → t.trafficOut = 0b100100#6) ∧
      (t.ph ≠ phaseEmit →
        t.pedOut = if t.cur = codeWalkOnPhase1 ∨ t.cur = codeWalkOnPhase2 then 0b10#2 else 0b00#2)

/-! ## The table's policy -/

/-- Rule R107: the check of reachability says that every state is reached by some samples. -/
def Obligations.ReachabilityCheckIsExact : Prop :=
  ∀ t : RomTable, isTotal t = true →
    (allReachable t = true ↔ ∀ c : StateCode, c.toNat ≤ 8 → ∃ xs, driveTo t codeGoNorthSouth xs = some c)

/-- Rule R108: the check of pedestrian liveness says that there is a bound within which every sequence of samples with
P = 1 leads from each traffic state into GoPedestrian. That the bound is one number for all samples is log entry 14. -/
def Obligations.LivenessCheckIsExact : Prop :=
  ∀ t : RomTable, isTotal t = true →
    (pedestrianLive t = true ↔
      ∃ n, ∀ c ∈ trafficCodes, ∀ xs : List Sense, xs.length = n → (∀ x ∈ xs, senseP x = true) →
        ∃ k, k ≤ n ∧ driveTo t c (xs.take k) = some codeGoPedestrian)

/-- Rules R108 and R225 for the default TABLE: with P = 1 at every sample GoPedestrian is entered within 4 transitions and
1600 ticks of holds from GoEastWest, 3 and 1000 from WaitEastWest, 2 and 800 from GoNorthSouth, 1 and 200 from
WaitNorthSouth. -/
def Obligations.PedestrianIsServedWithin : Prop :=
  ∀ row ∈ [(codeGoEastWest, 4, 1600), (codeWaitEastWest, 3, 1000), (codeGoNorthSouth, 2, 800),
      (codeWaitNorthSouth, 1, 200)],
    ∀ xs : List Sense, xs.length = row.2.1 → (∀ x ∈ xs, senseP x = true) →
      ∃ k n, k ≤ row.2.1 ∧ driveTo defaultTable row.1 (xs.take k) = some codeGoPedestrian ∧
        driveTicks defaultTable row.1 (xs.take k) = some n ∧ n ≤ row.2.2

/-- Rules R111 and R121 at the SAMPLE edge, for every well-formed TABLE: the blink states advance in their fixed order to a
traffic Go state whatever the sample, and a Wait state never stays. -/
def Obligations.BlinkAndWaitStatesAdvance : Prop :=
  ∀ s : State, wfTable s.params.table = true → s.Runs → s.flt = 0b00#2 → s.ph = phaseSample → s.cur.toNat ≤ 8 →
    ∃ t, step s = .next t ∧ t.flt = 0b00#2 ∧ t.ph = phaseEmit ∧
      (s.cur = codeWalkOnPhase1 → t.cur = codeWalkOffPhase1) ∧
      (s.cur = codeWalkOffPhase1 → t.cur = codeWalkOnPhase2) ∧
      (s.cur = codeWalkOnPhase2 → t.cur = codeWalkOffPhase2) ∧
      (s.cur = codeWalkOffPhase2 → t.cur = codeGoNorthSouth ∨ t.cur = codeGoEastWest) ∧
      (s.cur = codeWaitNorthSouth ∨ s.cur = codeWaitEastWest → t.cur ≠ s.cur)
end

