-- ==== Sys2Proof/Laws/Observe.lean ====
section
/-! SUPPORT. What the end of a bounded run is. -/

namespace Sys2Proof.Machine

/-- A bounded run of drive cycles ends in a state that is not faulted, and that so many edges lead to. -/
theorem runCycles_end {fuel n : Nat} {s t : State} (h : runCycles fuel n s = some t) :
    t.faulted = false ∧ ∃ m ≤ fuel, runEdges m s = .next t := by
  induction fuel generalizing n s with
  | zero =>
    cases n with
    | zero =>
      simp only [runCycles, Option.ite_none_left_eq_some, Option.some.injEq] at h
      obtain ⟨hf, rfl⟩ := h
      exact ⟨by simpa using hf, 0, le_rfl, rfl⟩
    | succ n => cases h
  | succ fuel ih =>
    cases n with
    | zero =>
      simp only [runCycles, Option.ite_none_left_eq_some, Option.some.injEq] at h
      obtain ⟨hf, rfl⟩ := h
      exact ⟨by simpa using hf, 0, Nat.zero_le _, rfl⟩
    | succ n =>
      rw [runCycles, Option.ite_none_left_eq_some] at h
      obtain ⟨-, h⟩ := h
      cases hs : step s with
      | fault r => cases r
      | refused r => simp [hs] at h
      | next u =>
        simp only [hs, Option.ite_none_left_eq_some] at h
        obtain ⟨hf, m, hm, hr⟩ := ih h.2
        exact ⟨hf, m + 1, Nat.succ_le_succ hm, by simp only [runEdges, hs, hr]⟩

end Sys2Proof.Machine
end

