-- ==== Sys2Proof/Laws/State.lean ====
section
/-! SUPPORT. One lemma per field per update of the state, so that no later proof unfolds a record update. -/

namespace Sys2Proof.Machine

variable (s : State)

/-! lightWrite -/

@[simp] theorem State.lightWrite_cur (t : TrafficWord) (p : PedWord) : (s.lightWrite t p).cur = s.cur := rfl
@[simp] theorem State.lightWrite_ph (t : TrafficWord) (p : PedWord) : (s.lightWrite t p).ph = s.ph := rfl
@[simp] theorem State.lightWrite_cnt (t : TrafficWord) (p : PedWord) : (s.lightWrite t p).cnt = s.cnt := rfl
@[simp] theorem State.lightWrite_trafficQ (t : TrafficWord) (p : PedWord) : (s.lightWrite t p).trafficQ = t := rfl
@[simp] theorem State.lightWrite_pedQ (t : TrafficWord) (p : PedWord) : (s.lightWrite t p).pedQ = p := rfl
@[simp] theorem State.lightWrite_flt (t : TrafficWord) (p : PedWord) : (s.lightWrite t p).flt = s.flt := rfl
@[simp] theorem State.lightWrite_params (t : TrafficWord) (p : PedWord) : (s.lightWrite t p).params = s.params := rfl
@[simp] theorem State.lightWrite_released (t : TrafficWord) (p : PedWord) : (s.lightWrite t p).released = s.released := rfl
@[simp] theorem State.lightWrite_inputs (t : TrafficWord) (p : PedWord) : (s.lightWrite t p).inputs = s.inputs := rfl
@[simp] theorem State.lightWrite_edge (t : TrafficWord) (p : PedWord) : (s.lightWrite t p).edge = s.edge := rfl
@[simp] theorem State.lightWrite_ports (t : TrafficWord) (p : PedWord) : (s.lightWrite t p).ports = s.ports := rfl
@[simp] theorem State.lightWrite_sense (t : TrafficWord) (p : PedWord) : (s.lightWrite t p).sense = s.sense := rfl

/-! loadTimer -/

@[simp] theorem State.loadTimer_cur (h : Ticks) : (s.loadTimer h).cur = s.cur := rfl
@[simp] theorem State.loadTimer_ph (h : Ticks) : (s.loadTimer h).ph = s.ph := rfl
@[simp] theorem State.loadTimer_cnt (h : Ticks) : (s.loadTimer h).cnt = h := rfl
@[simp] theorem State.loadTimer_trafficQ (h : Ticks) : (s.loadTimer h).trafficQ = s.trafficQ := rfl
@[simp] theorem State.loadTimer_pedQ (h : Ticks) : (s.loadTimer h).pedQ = s.pedQ := rfl
@[simp] theorem State.loadTimer_flt (h : Ticks) : (s.loadTimer h).flt = s.flt := rfl
@[simp] theorem State.loadTimer_params (h : Ticks) : (s.loadTimer h).params = s.params := rfl
@[simp] theorem State.loadTimer_released (h : Ticks) : (s.loadTimer h).released = s.released := rfl
@[simp] theorem State.loadTimer_inputs (h : Ticks) : (s.loadTimer h).inputs = s.inputs := rfl
@[simp] theorem State.loadTimer_edge (h : Ticks) : (s.loadTimer h).edge = s.edge := rfl
@[simp] theorem State.loadTimer_ports (h : Ticks) : (s.loadTimer h).ports = s.ports := rfl
@[simp] theorem State.loadTimer_sense (h : Ticks) : (s.loadTimer h).sense = s.sense := rfl

/-! setPhase -/

@[simp] theorem State.setPhase_cur (p : PhaseCode) : (s.setPhase p).cur = s.cur := rfl
@[simp] theorem State.setPhase_ph (p : PhaseCode) : (s.setPhase p).ph = p := rfl
@[simp] theorem State.setPhase_cnt (p : PhaseCode) : (s.setPhase p).cnt = s.cnt := rfl
@[simp] theorem State.setPhase_trafficQ (p : PhaseCode) : (s.setPhase p).trafficQ = s.trafficQ := rfl
@[simp] theorem State.setPhase_pedQ (p : PhaseCode) : (s.setPhase p).pedQ = s.pedQ := rfl
@[simp] theorem State.setPhase_flt (p : PhaseCode) : (s.setPhase p).flt = s.flt := rfl
@[simp] theorem State.setPhase_params (p : PhaseCode) : (s.setPhase p).params = s.params := rfl
@[simp] theorem State.setPhase_released (p : PhaseCode) : (s.setPhase p).released = s.released := rfl
@[simp] theorem State.setPhase_inputs (p : PhaseCode) : (s.setPhase p).inputs = s.inputs := rfl
@[simp] theorem State.setPhase_edge (p : PhaseCode) : (s.setPhase p).edge = s.edge := rfl
@[simp] theorem State.setPhase_ports (p : PhaseCode) : (s.setPhase p).ports = s.ports := rfl
@[simp] theorem State.setPhase_sense (p : PhaseCode) : (s.setPhase p).sense = s.sense := rfl

/-! setCur -/

@[simp] theorem State.setCur_cur (c : StateCode) : (s.setCur c).cur = c := rfl
@[simp] theorem State.setCur_ph (c : StateCode) : (s.setCur c).ph = s.ph := rfl
@[simp] theorem State.setCur_cnt (c : StateCode) : (s.setCur c).cnt = s.cnt := rfl
@[simp] theorem State.setCur_trafficQ (c : StateCode) : (s.setCur c).trafficQ = s.trafficQ := rfl
@[simp] theorem State.setCur_pedQ (c : StateCode) : (s.setCur c).pedQ = s.pedQ := rfl
@[simp] theorem State.setCur_flt (c : StateCode) : (s.setCur c).flt = s.flt := rfl
@[simp] theorem State.setCur_params (c : StateCode) : (s.setCur c).params = s.params := rfl
@[simp] theorem State.setCur_released (c : StateCode) : (s.setCur c).released = s.released := rfl
@[simp] theorem State.setCur_inputs (c : StateCode) : (s.setCur c).inputs = s.inputs := rfl
@[simp] theorem State.setCur_edge (c : StateCode) : (s.setCur c).edge = s.edge := rfl
@[simp] theorem State.setCur_ports (c : StateCode) : (s.setCur c).ports = s.ports := rfl
@[simp] theorem State.setCur_sense (c : StateCode) : (s.setCur c).sense = s.sense := rfl

/-! countTick -/

@[simp] theorem State.countTick_cur : (s.countTick).cur = s.cur := rfl
@[simp] theorem State.countTick_ph : (s.countTick).ph = if s.cnt = 1#16 then phaseSample else s.ph := rfl
@[simp] theorem State.countTick_cnt : (s.countTick).cnt = s.cnt - 1#16 := rfl
@[simp] theorem State.countTick_trafficQ : (s.countTick).trafficQ = s.trafficQ := rfl
@[simp] theorem State.countTick_pedQ : (s.countTick).pedQ = s.pedQ := rfl
@[simp] theorem State.countTick_flt : (s.countTick).flt = s.flt := rfl
@[simp] theorem State.countTick_params : (s.countTick).params = s.params := rfl
@[simp] theorem State.countTick_released : (s.countTick).released = s.released := rfl
@[simp] theorem State.countTick_inputs : (s.countTick).inputs = s.inputs := rfl
@[simp] theorem State.countTick_edge : (s.countTick).edge = s.edge := rfl
@[simp] theorem State.countTick_ports : (s.countTick).ports = s.ports := rfl
@[simp] theorem State.countTick_sense : (s.countTick).sense = s.sense := rfl

/-! takeFault -/

@[simp] theorem State.takeFault_cur (f : FaultCause) : (s.takeFault f).cur = s.cur := rfl
@[simp] theorem State.takeFault_ph (f : FaultCause) : (s.takeFault f).ph = s.ph := rfl
@[simp] theorem State.takeFault_cnt (f : FaultCause) : (s.takeFault f).cnt = s.cnt := rfl
@[simp] theorem State.takeFault_trafficQ (f : FaultCause) : (s.takeFault f).trafficQ = s.trafficQ := rfl
@[simp] theorem State.takeFault_pedQ (f : FaultCause) : (s.takeFault f).pedQ = s.pedQ := rfl
@[simp] theorem State.takeFault_flt (f : FaultCause) : (s.takeFault f).flt = faultCode f := rfl
@[simp] theorem State.takeFault_params (f : FaultCause) : (s.takeFault f).params = s.params := rfl
@[simp] theorem State.takeFault_released (f : FaultCause) : (s.takeFault f).released = s.released := rfl
@[simp] theorem State.takeFault_inputs (f : FaultCause) : (s.takeFault f).inputs = s.inputs := rfl
@[simp] theorem State.takeFault_edge (f : FaultCause) : (s.takeFault f).edge = s.edge := rfl
@[simp] theorem State.takeFault_ports (f : FaultCause) : (s.takeFault f).ports = s.ports := rfl
@[simp] theorem State.takeFault_sense (f : FaultCause) : (s.takeFault f).sense = s.sense := rfl

/-! doReset -/

@[simp] theorem State.doReset_cur : (s.doReset).cur = 0x0#4 := rfl
@[simp] theorem State.doReset_ph : (s.doReset).ph = 0b00#2 := rfl
@[simp] theorem State.doReset_cnt : (s.doReset).cnt = 0#16 := rfl
@[simp] theorem State.doReset_trafficQ : (s.doReset).trafficQ = 0b100100#6 := rfl
@[simp] theorem State.doReset_pedQ : (s.doReset).pedQ = 0b10#2 := rfl
@[simp] theorem State.doReset_flt : (s.doReset).flt = 0b00#2 := rfl
@[simp] theorem State.doReset_params : (s.doReset).params = s.params := rfl
@[simp] theorem State.doReset_released : (s.doReset).released = s.released := rfl
@[simp] theorem State.doReset_inputs : (s.doReset).inputs = s.inputs := rfl
@[simp] theorem State.doReset_edge : (s.doReset).edge = s.edge := rfl
@[simp] theorem State.doReset_ports : (s.doReset).ports = s.ports := rfl
@[simp] theorem State.doReset_sense : (s.doReset).sense = s.sense := rfl

/-! release -/

@[simp] theorem State.release_cur : (s.release).cur = s.cur := rfl
@[simp] theorem State.release_ph : (s.release).ph = s.ph := rfl
@[simp] theorem State.release_cnt : (s.release).cnt = s.cnt := rfl
@[simp] theorem State.release_trafficQ : (s.release).trafficQ = s.trafficQ := rfl
@[simp] theorem State.release_pedQ : (s.release).pedQ = s.pedQ := rfl
@[simp] theorem State.release_flt : (s.release).flt = s.flt := rfl
@[simp] theorem State.release_params : (s.release).params = s.params := rfl
@[simp] theorem State.release_released : (s.release).released = true := rfl
@[simp] theorem State.release_inputs : (s.release).inputs = s.inputs := rfl
@[simp] theorem State.release_edge : (s.release).edge = s.edge := rfl
@[simp] theorem State.release_ports : (s.release).ports = s.ports := rfl
@[simp] theorem State.release_sense : (s.release).sense = s.sense := rfl

/-! endEdge -/

@[simp] theorem State.endEdge_cur : (s.endEdge).cur = s.cur := rfl
@[simp] theorem State.endEdge_ph : (s.endEdge).ph = s.ph := rfl
@[simp] theorem State.endEdge_cnt : (s.endEdge).cnt = s.cnt := rfl
@[simp] theorem State.endEdge_trafficQ : (s.endEdge).trafficQ = s.trafficQ := rfl
@[simp] theorem State.endEdge_pedQ : (s.endEdge).pedQ = s.pedQ := rfl
@[simp] theorem State.endEdge_flt : (s.endEdge).flt = s.flt := rfl
@[simp] theorem State.endEdge_params : (s.endEdge).params = s.params := rfl
@[simp] theorem State.endEdge_released : (s.endEdge).released = s.released := rfl
@[simp] theorem State.endEdge_inputs : (s.endEdge).inputs = s.inputs.tail := rfl
@[simp] theorem State.endEdge_edge : (s.endEdge).edge = s.edge + 1 := rfl

/-! The ports of a state with a scheduled input, and of one without. -/

theorem State.ports_of_cons {i : EdgeInput} {l : List EdgeInput} (h : s.inputs = i :: l) : s.ports = i := by
  simp [State.ports, h]

theorem State.ports_of_nil (h : s.inputs = []) : s.ports = Config.freeInput s.edge := by
  simp [State.ports, h]

end Sys2Proof.Machine
end

