-- ==== Sys2Proof/Laws/Ops.lean ====
section
/-! SUPPORT. What each shared operation can do, said once. -/

namespace Sys2Proof.Machine

/-! The ROM read. -/

theorem romRead_some_of_le (t : RomTable) {c : StateCode} (h : c.toNat ≤ 8) :
    romRead t c = some (t[c.toNat]'(Nat.lt_succ_of_le h)) := by
  unfold romRead
  exact Vector.getElem?_eq_getElem _

theorem romRead_none_iff (t : RomTable) (c : StateCode) : romRead t c = none ↔ 8 < c.toNat := by
  unfold romRead
  rw [Vector.getElem?_eq_none_iff]
  omega

theorem le_of_romRead {t : RomTable} {c : StateCode} {e : RomEntry} (h : romRead t c = some e) : c.toNat ≤ 8 := by
  by_contra hc
  rw [(romRead_none_iff t c).2 (by omega)] at h
  cases h

/-- `outputs_for`: either the code has no entry, or its entry's three fields. -/
theorem outputsFor_cases (t : RomTable) (c : StateCode) :
    (romRead t c = none ∧ outputsFor t c = .error .illegalState) ∨
    ∃ e, romRead t c = some e ∧ outputsFor t c = .ok (e.traffic, e.ped, e.hold) := by
  unfold outputsFor
  cases romRead t c with
  | none => exact .inl ⟨rfl, rfl⟩
  | some e => exact .inr ⟨e, rfl, rfl⟩

/-- `next_state`: the code has no entry, or its successor is no state code, or the successor. -/
theorem nextState_cases (t : RomTable) (c : StateCode) (x : Sense) :
    (romRead t c = none ∧ nextState t c x = .error .illegalState) ∨
    (∃ e, romRead t c = some e ∧ 8 < (entryNext e x).toNat ∧ nextState t c x = .error .illegalState) ∨
    ∃ e, romRead t c = some e ∧ (entryNext e x).toNat ≤ 8 ∧ nextState t c x = .ok (entryNext e x) := by
  unfold nextState
  cases romRead t c with
  | none => exact .inl ⟨rfl, rfl⟩
  | some e =>
    by_cases h : 8 < (entryNext e x).toNat
    · exact .inr (.inl ⟨e, rfl, h, by simp [h]⟩)
    · exact .inr (.inr ⟨e, rfl, by omega, by simp [h]⟩)

/-- EMIT: IllegalState, ZeroHold, or the three loads. -/
theorem emitEdge_cases (c : StateCode) (s : State) :
    (romRead s.params.table c = none ∧ emitEdge c s = s.takeFault .illegalState) ∨
    ∃ e, romRead s.params.table c = some e ∧
      ((e.hold = 0#16 ∧ emitEdge c s = s.takeFault .zeroHold) ∨
       (e.hold ≠ 0#16 ∧ emitEdge c s = ((s.lightWrite e.traffic e.ped).loadTimer e.hold).setPhase phaseHold)) := by
  unfold emitEdge
  obtain ⟨hn, ho⟩ | ⟨e, he, ho⟩ := outputsFor_cases s.params.table c
  · exact .inl ⟨hn, by rw [ho]⟩
  · refine .inr ⟨e, he, ?_⟩
    rw [ho]
    by_cases h : e.hold = 0#16
    · exact .inl ⟨h, by simp [h]⟩
    · exact .inr ⟨h, by simp [h]⟩

/-- HOLD: ZeroHold, a counted tick, or nothing. -/
theorem holdEdge_cases (s : State) :
    (s.cnt = 0#16 ∧ holdEdge s = s.takeFault .zeroHold) ∨
    (s.cnt ≠ 0#16 ∧ s.ports.tick = true ∧ holdEdge s = s.countTick) ∨
    (s.cnt ≠ 0#16 ∧ s.ports.tick = false ∧ holdEdge s = s) := by
  unfold holdEdge
  by_cases h : s.cnt = 0#16
  · exact .inl ⟨h, by simp [h]⟩
  · cases ht : s.ports.tick
    · exact .inr (.inr ⟨h, rfl, by simp [h]⟩)
    · exact .inr (.inl ⟨h, rfl, by simp [h]⟩)

/-- SAMPLE: IllegalState, or the successor is loaded. -/
theorem sampleEdge_cases (c : StateCode) (s : State) :
    ((∀ n, nextState s.params.table c s.sense ≠ .ok n) ∧ sampleEdge c s = s.takeFault .illegalState) ∨
    ∃ n, nextState s.params.table c s.sense = .ok n ∧ sampleEdge c s = (s.setCur n).setPhase phaseEmit := by
  unfold sampleEdge
  obtain ⟨-, h⟩ | ⟨e, -, -, h⟩ | ⟨e, -, -, h⟩ := nextState_cases s.params.table c s.sense
  · exact .inl ⟨by simp [h], by rw [h]⟩
  · exact .inl ⟨by simp [h], by rw [h]⟩
  · exact .inr ⟨_, h, by rw [h]⟩

/-! What an entry does, phase by phase. -/

theorem entryEdge_emit {c : StateCode} {s : State} (h : s.ph = phaseEmit) : entryEdge c s = emitEdge c s := by
  simp [entryEdge, h]

theorem entryEdge_hold {c : StateCode} {s : State} (h : s.ph = phaseHold) : entryEdge c s = holdEdge s := by
  simp [entryEdge, h, phaseEmit, phaseHold]

theorem entryEdge_sample {c : StateCode} {s : State} (h : s.ph = phaseSample) : entryEdge c s = sampleEdge c s := by
  simp [entryEdge, h, phaseEmit, phaseHold, phaseSample]

theorem entryEdge_illegal {c : StateCode} {s : State} (h : s.ph = 0b11#2) :
    entryEdge c s = s.takeFault .illegalPhase := by
  simp [entryEdge, h, phaseEmit, phaseHold, phaseSample]

/-- The four phase codes. -/
theorem phase_cases (p : PhaseCode) : p = phaseEmit ∨ p = phaseHold ∨ p = phaseSample ∨ p = 0b11#2 := by
  revert p; decide

/-- An edge of the controller that is not faulted is its entry's edge (rules R83, R161). -/
theorem runPhase_eq (s : State) : runPhase s = .next (entryEdge s.cur s) := by
  unfold runPhase
  obtain h | h | h | h := phase_cases s.ph
  · rw [entryEdge_emit h, h]; rfl
  · rw [entryEdge_hold h, h]; rfl
  · rw [entryEdge_sample h, h]; rfl
  · rw [entryEdge_illegal h, h]; rfl

/-- Every instruction completes: its next state is that of its entry's edge or of its micro-operation. -/
theorem exec_next (i : Instr) (s : State) : ∃ t, exec i s = .next t := by
  cases i <;> exact ⟨_, rfl⟩

/-- A step is a reset edge, the refusal of a launch, a faulted edge, or the edge of `cur`'s entry. -/
theorem step_cases (s : State) :
    (s.ports.rst = true ∧ step s = .next s.doReset.endEdge) ∨
    (s.ports.rst = false ∧ ∃ r, s.releaseRefusal = some r ∧ step s = .refused r) ∨
    (s.ports.rst = false ∧ s.releaseRefusal = none ∧ s.flt ≠ 0b00#2 ∧ step s = .next s.release.endEdge) ∨
    (s.ports.rst = false ∧ s.releaseRefusal = none ∧ s.flt = 0b00#2 ∧
      step s = .next (entryEdge s.cur s).release.endEdge) := by
  unfold step
  cases hr : s.ports.rst
  · cases hl : s.releaseRefusal with
    | some r => exact .inr (.inl ⟨rfl, r, rfl, rfl⟩)
    | none =>
      by_cases hf : s.flt = 0b00#2
      · exact .inr (.inr (.inr ⟨rfl, rfl, hf, by simp [runEdge, hf, runPhase_eq, mapNext]⟩))
      · exact .inr (.inr (.inl ⟨rfl, rfl, hf, by simp [runEdge, hf, mapNext]⟩))
  · exact .inl ⟨rfl, rfl⟩

end Sys2Proof.Machine
end

