-- ==== Sys2Proof/Laws/PerInstr.lean ====
section
/-! SUPPORT. Facts made once per instruction: an instruction's word is the table's and is a legal encoding, in the format
of the register that holds it. -/

namespace Sys2Proof.Laws

/-- The word the encoder writes is the opcode table's word for the row, and it is a legal encoding (rules R71, R73, R84). -/
def TableWord.Statement (i : Instr) : Prop :=
  encode i = i.tableWord ∧ i.wellFormed = true

theorem TableWord.goNorthSouth : TableWord.Statement .goNorthSouth := ⟨rfl, rfl⟩
theorem TableWord.waitNorthSouth : TableWord.Statement .waitNorthSouth := ⟨rfl, rfl⟩
theorem TableWord.goEastWest : TableWord.Statement .goEastWest := ⟨rfl, rfl⟩
theorem TableWord.waitEastWest : TableWord.Statement .waitEastWest := ⟨rfl, rfl⟩
theorem TableWord.goPedestrian : TableWord.Statement .goPedestrian := ⟨rfl, rfl⟩
theorem TableWord.walkOnPhase1 : TableWord.Statement .walkOnPhase1 := ⟨rfl, rfl⟩
theorem TableWord.walkOffPhase1 : TableWord.Statement .walkOffPhase1 := ⟨rfl, rfl⟩
theorem TableWord.walkOnPhase2 : TableWord.Statement .walkOnPhase2 := ⟨rfl, rfl⟩
theorem TableWord.walkOffPhase2 : TableWord.Statement .walkOffPhase2 := ⟨rfl, rfl⟩
theorem TableWord.emit : TableWord.Statement .emit := ⟨rfl, rfl⟩
theorem TableWord.hold : TableWord.Statement .hold := ⟨rfl, rfl⟩
theorem TableWord.sample : TableWord.Statement .sample := ⟨rfl, rfl⟩

end Sys2Proof.Laws
end

