-- ==== Sys2Proof/Tests/Slice0.lean ====
section
/-! SUPPORT. The author's own tests. Expected results are the spec's: its code tables, its worked examples and the vectors of
95_test_vectors.md, named in each docstring. After them come the witnesses: for each statement with hypotheses, a concrete
state and operands that meet them all together. -/

namespace Sys2Proof.Tests

open Sys2Proof Sys2Proof.Machine

/-! ## Helpers -/

/-- A released controller with the registers `(cur, ph, cnt, traffic_q, ped_q, flt)` and the inputs of the next edge. -/
def mk (cur : StateCode) (ph : PhaseCode) (cnt : Ticks) (tr : TrafficWord) (pd : PedWord) (flt : FaultCode)
    (i : EdgeInput) : State :=
  { State.reset with
    cur := cur, ph := ph, cnt := cnt, trafficQ := tr, pedQ := pd, flt := flt, released := true, inputs := [i] }

/-- An edge with `rst = 0`. -/
def inp (tick : Bool) (raw : Nat) : EdgeInput := ⟨false, tick, raw⟩

/-- An edge with `rst = 1`. -/
def rstIn : EdgeInput := ⟨true, true, 7⟩

/-- The same controller with a raw sensor port of 8 bits. -/
def wide (s : State) : State := { s with params := { s.params with sensorRawW := 8 } }

/-- The controller with another TABLE. -/
def withTable (t : RomTable) (s : State) : State := { s with params := { s.params with table := t } }

/-- The post-reset state whose next edge has the inputs `i`. -/
def fresh (i : EdgeInput) : State := { State.reset with inputs := [i] }

/-- The register tuple of the spec's vectors. -/
structure Regs where
  cur      : StateCode
  ph       : PhaseCode
  cnt      : Ticks
  trafficQ : TrafficWord
  pedQ     : PedWord
  flt      : FaultCode
  deriving DecidableEq, Repr

def regs (s : State) : Regs := ⟨s.cur, s.ph, s.cnt, s.trafficQ, s.pedQ, s.flt⟩

def regsOf : Host.Outcome State Fault Refusal → Option Regs
  | .next t => some (regs t)
  | .fault _ => none
  | .refused _ => none

def portsOf : Host.Outcome State Fault Refusal → Option (TrafficWord × PedWord)
  | .next t => some (t.trafficOut, t.pedOut)
  | .fault _ => none
  | .refused _ => none

def refusalOf : Host.Outcome State Fault Refusal → Option Refusal
  | .next _ => none
  | .fault _ => none
  | .refused r => some r

/-! ## Decoding and encoding: words written out from rules R71 and R73 -/

theorem test_decode_goNorthSouth : decode (.state4 0b0000#4) = .ok .goNorthSouth ∧ encode .goNorthSouth = .state4 0x0#4 := by decide
theorem test_decode_waitNorthSouth : decode (.state4 0b0001#4) = .ok .waitNorthSouth ∧ encode .waitNorthSouth = .state4 0x1#4 := by decide
theorem test_decode_goEastWest : decode (.state4 0b0010#4) = .ok .goEastWest ∧ encode .goEastWest = .state4 0x2#4 := by decide
theorem test_decode_waitEastWest : decode (.state4 0b0011#4) = .ok .waitEastWest ∧ encode .waitEastWest = .state4 0x3#4 := by decide
theorem test_decode_goPedestrian : decode (.state4 0b0100#4) = .ok .goPedestrian ∧ encode .goPedestrian = .state4 0x4#4 := by decide
theorem test_decode_walkOnPhase1 : decode (.state4 0b0101#4) = .ok .walkOnPhase1 ∧ encode .walkOnPhase1 = .state4 0x5#4 := by decide
theorem test_decode_walkOffPhase1 : decode (.state4 0b0110#4) = .ok .walkOffPhase1 ∧ encode .walkOffPhase1 = .state4 0x6#4 := by decide
theorem test_decode_walkOnPhase2 : decode (.state4 0b0111#4) = .ok .walkOnPhase2 ∧ encode .walkOnPhase2 = .state4 0x7#4 := by decide
theorem test_decode_walkOffPhase2 : decode (.state4 0b1000#4) = .ok .walkOffPhase2 ∧ encode .walkOffPhase2 = .state4 0x8#4 := by decide
theorem test_decode_emit : decode (.phase2 0b00#2) = .ok .emit ∧ encode .emit = .phase2 0x0#2 := by decide
theorem test_decode_hold : decode (.phase2 0b01#2) = .ok .hold ∧ encode .hold = .phase2 0x1#2 := by decide
theorem test_decode_sample : decode (.phase2 0b10#2) = .ok .sample ∧ encode .sample = .phase2 0x2#2 := by decide

/-- Rules R72, R73: the smallest and the largest illegal word of each format is rejected by name. -/
theorem test_decode_illegal :
    decode (.state4 9#4) = .error (.illegalStateCode 9#4) ∧ decode (.state4 15#4) = .error (.illegalStateCode 15#4) ∧
    decode (.phase2 3#2) = .error (.illegalPhaseCode 3#2) := by decide

/-- The same bits are GoEastWest as a row of 4 bits and SAMPLE as a row of 2 bits. -/
theorem test_decodeTableWord :
    decodeTableWord 4 2 = some .goEastWest ∧ decodeTableWord 2 2 = some .sample ∧ decodeTableWord 8 8 = some .walkOffPhase2 ∧
    decodeTableWord 4 9 = none ∧ decodeTableWord 2 3 = none := by decide

/-- The word of a row runs at the next edge. The holds are those of rules R122 and R142. -/
theorem test_withFetchWord :
    regsOf (step (State.reset.withFetchWord 4 0)) = some ⟨0#4, 0b01#2, 600#16, 0x21#6, 0b10#2, 0#2⟩ ∧
    regsOf (step (State.reset.withFetchWord 4 5)) = some ⟨5#4, 0b01#2, 50#16, 0x24#6, 0b10#2, 0#2⟩ ∧
    regsOf (step (State.reset.withFetchWord 2 0)) = some ⟨0#4, 0b01#2, 600#16, 0x21#6, 0b10#2, 0#2⟩ := by decide

/-! ## Well-formedness: each check refuses an ill-formed term -/

/-- Rule R84: the smallest and largest illegal word of each format. -/
theorem test_wellFormed_words :
    (CodeWord.state4 9#4).wellFormed = false ∧ (CodeWord.state4 15#4).wellFormed = false ∧
    (CodeWord.phase2 3#2).wellFormed = false ∧ (CodeWord.state4 8#4).wellFormed = true ∧
    (CodeWord.phase2 2#2).wellFormed = true := by decide

/-- Vector F9: `next[3] = 12` dangles. -/
def tableDangling : RomTable := defaultTable.set 0 { rowGoNorthSouth with next := rowGoNorthSouth.next.set 3 12#4 }
/-- Vector F8: a hold of 0. -/
def tableZeroHold : RomTable := defaultTable.set 1 { rowWaitNorthSouth with hold := 0#16 }
/-- Vector F10: WaitNS sends 0b110 to GoEW. -/
def tableStarving : RomTable :=
  defaultTable.set 1 { rowWaitNorthSouth with next := rowWaitNorthSouth.next.set 6 codeGoEastWest }
/-- GoPed never leaves, so the blink states are not reached. -/
def tableUnreachable : RomTable := defaultTable.set 4 { rowGoPedestrian with next := Vector.replicate 8 codeGoPedestrian }
/-- Both greens lit. -/
def tableBothGreens : RomTable := defaultTable.set 0 { rowGoNorthSouth with traffic := 0b001001#6 }
/-- GoNS leads straight to GoEW. -/
def tableGreenToGreen : RomTable :=
  defaultTable.set 0 { rowGoNorthSouth with next := rowGoNorthSouth.next.set 1 codeGoEastWest }
/-- A sensor value cuts the blink sequence short. -/
def tableShortBlink : RomTable :=
  defaultTable.set 5 { rowWalkOnPhase1 with next := rowWalkOnPhase1.next.set 7 codeGoNorthSouth }
/-- Two lamps lit in one direction. -/
def tableTwoLamps : RomTable := defaultTable.set 1 { rowWaitNorthSouth with traffic := 0b110010#6 }
/-- Walk and don't-walk together. -/
def tablePedBoth : RomTable := defaultTable.set 4 { rowGoPedestrian with ped := 0b11#2 }
/-- A Wait state that stays. -/
def tableWaitStays : RomTable :=
  defaultTable.set 3 { rowWaitEastWest with next := rowWaitEastWest.next.set 0 codeWaitEastWest }

theorem test_wf_dangling : noDangling tableDangling = false ∧ wfTable tableDangling = false := by decide
theorem test_wf_total : isTotal tableDangling = false ∧ isTotal defaultTable = true := by decide
theorem test_wf_zeroHold : positiveHolds tableZeroHold = false ∧ wfTable tableZeroHold = false := by decide
theorem test_wf_starving : pedestrianLive tableStarving = false ∧ wfTable tableStarving = false := by decide
theorem test_wf_unreachable : allReachable tableUnreachable = false ∧ wfTable tableUnreachable = false := by decide
theorem test_wf_bothGreens : noBothGreens tableBothGreens = false ∧ wfTable tableBothGreens = false := by decide
theorem test_wf_greenToGreen : noGreenToGreen tableGreenToGreen = false ∧ wfTable tableGreenToGreen = false := by decide
theorem test_wf_shortBlink : blinkInvariant tableShortBlink = false ∧ wfTable tableShortBlink = false := by decide
theorem test_wf_twoLamps : legalTrafficWords tableTwoLamps = false ∧ wfTable tableTwoLamps = false := by decide
theorem test_wf_pedBoth : legalPedWords tablePedBoth = false ∧ wfTable tablePedBoth = false := by decide
theorem test_wf_waitStays : waitsAdvance tableWaitStays = false ∧ wfTable tableWaitStays = false := by decide

/-- Rule R7: a port of 2 bits and a tick period of 0 are refused, a tick period of 0.01 s is legal. -/
theorem test_params_illegal :
    paramsRefusal { defaultParams with sensorRawW := 2 } = some .illegalParameter ∧
    paramsRefusal { defaultParams with tickPeriod := ⟨0, 1, .seconds⟩ } = some .illegalParameter ∧ paramsRefusal defaultParams = none ∧
    paramsRefusal { defaultParams with tickPeriod := ⟨1, 100, .seconds⟩ } = none := by decide

/-- Rule R77: exactly eight words are legal, the five used and the three unused ones. -/
theorem test_legalTraffic :
    (List.range 64).filter (fun n => legalTraffic (BitVec.ofNat 6 n)) = [0x0A, 0x0C, 0x11, 0x12, 0x14, 0x21, 0x22, 0x24] := by
  decide

/-! ## The table -/

/-- Vectors T1 to T72, row by row. -/
theorem test_transitions :
    (stateCodes.map fun c => senses.filterMap fun x => (successor? defaultTable c x).map (·.toNat)) =
      [[0, 1, 0, 1, 1, 1, 1, 1], [2, 2, 2, 2, 4, 4, 4, 4], [2, 2, 3, 3, 3, 3, 3, 3], [0, 0, 0, 0, 4, 4, 0, 0],
       [4, 5, 5, 5, 4, 5, 5, 5], [6, 6, 6, 6, 6, 6, 6, 6], [7, 7, 7, 7, 7, 7, 7, 7], [8, 8, 8, 8, 8, 8, 8, 8],
       [0, 2, 0, 0, 0, 2, 0, 0]] := by decide

/-- Rule R126: the two Wait rows differ at 0b110 and 0b111. -/
theorem test_wait_asymmetry :
    nextState defaultTable codeWaitNorthSouth 0b110#3 = .ok codeGoPedestrian ∧
    nextState defaultTable codeWaitEastWest 0b110#3 = .ok codeGoNorthSouth ∧
    nextState defaultTable codeWaitNorthSouth 0b111#3 = .ok codeGoPedestrian ∧
    nextState defaultTable codeWaitEastWest 0b111#3 = .ok codeGoNorthSouth := by decide

/-- Vector O10: codes without an entry. -/
theorem test_outputsFor_illegal :
    outputsFor defaultTable 9#4 = .error .illegalState ∧ outputsFor defaultTable 15#4 = .error .illegalState := by decide

/-- Programs P2, P3 and P6 of 95_test_vectors.md over drive cycles: end state and ticks. -/
theorem test_programs :
    driveTo defaultTable 0#4 [1#3, 1#3, 1#3, 0#3] = some 2#4 ∧
    driveTicks defaultTable 0#4 [1#3, 1#3, 1#3, 0#3] = some 2000 ∧
    driveTo defaultTable 0#4 [4#3, 4#3, 4#3, 1#3, 0#3, 0#3, 0#3, 1#3] = some 2#4 ∧
    driveTicks defaultTable 0#4 [4#3, 4#3, 4#3, 1#3, 0#3, 0#3, 0#3, 1#3] = some 2200 ∧
    driveTo defaultTable 0#4 [1#3, 0#3, 2#3, 4#3, 1#3, 0#3, 0#3, 2#3] = some 8#4 ∧
    driveTicks defaultTable 0#4 [1#3, 0#3, 2#3, 4#3, 1#3, 0#3, 0#3, 2#3] = some 2350 := by decide

/-- The masking vectors of §2.6, with a port of 8 bits. -/
theorem test_masking :
    maskSense 0x00#8 = 0b000#3 ∧ maskSense 0x08#8 = 0b000#3 ∧ maskSense 0x07#8 = 0b111#3 ∧
    maskSense 0xF9#8 = 0b001#3 ∧ maskSense 0xFF#8 = 0b111#3 ∧ maskSense 0x84#8 = 0b100#3 := by decide

/-! ## The state words: one step each -/

/-- Vectors D1, D16 and T2, as the state word. -/
theorem test_goNorthSouth :
    regsOf (exec .goNorthSouth (mk 0#4 0b00#2 0#16 0x24#6 0b10#2 0#2 (inp false 0))) = some ⟨0#4, 0b01#2, 600#16, 0x21#6, 0b10#2, 0#2⟩ ∧
    regsOf (exec .goNorthSouth (mk 0#4 0b10#2 0#16 0x21#6 0b10#2 0#2 (inp false 1))) = some ⟨1#4, 0b00#2, 0#16, 0x21#6, 0b10#2, 0#2⟩ := by
  decide

/-- Vectors D11 and T15. -/
theorem test_waitNorthSouth :
    regsOf (exec .waitNorthSouth (mk 1#4 0b00#2 0#16 0x21#6 0b10#2 0#2 (inp false 0))) = some ⟨1#4, 0b01#2, 200#16, 0x22#6, 0b10#2, 0#2⟩ ∧
    regsOf (exec .waitNorthSouth (mk 1#4 0b10#2 0#16 0x22#6 0b10#2 0#2 (inp false 6))) = some ⟨4#4, 0b00#2, 0#16, 0x22#6, 0b10#2, 0#2⟩ := by
  decide

/-- The worked example of rule R124, and its corner case 0b101. -/
theorem test_goEastWest :
    regsOf (exec .goEastWest (mk 2#4 0b00#2 0#16 0x22#6 0b10#2 0#2 (inp false 0))) = some ⟨2#4, 0b01#2, 600#16, 0x0C#6, 0b10#2, 0#2⟩ ∧
    regsOf (exec .goEastWest (mk 2#4 0b10#2 0#16 0x0C#6 0b10#2 0#2 (inp false 5))) = some ⟨3#4, 0b00#2, 0#16, 0x0C#6, 0b10#2, 0#2⟩ := by
  decide

/-- Scenario 5 and the corner case 0b110 of rule R125. -/
theorem test_waitEastWest :
    regsOf (exec .waitEastWest (mk 3#4 0b10#2 0#16 0x14#6 0b10#2 0#2 (inp false 4))) = some ⟨4#4, 0b00#2, 0#16, 0x14#6, 0b10#2, 0#2⟩ ∧
    regsOf (exec .waitEastWest (mk 3#4 0b10#2 0#16 0x14#6 0b10#2 0#2 (inp false 6))) = some ⟨0#4, 0b00#2, 0#16, 0x14#6, 0b10#2, 0#2⟩ := by
  decide

/-- Vector D13 and scenario 4. -/
theorem test_goPedestrian :
    regsOf (exec .goPedestrian (mk 4#4 0b00#2 0#16 0x14#6 0b10#2 0#2 (inp false 0))) = some ⟨4#4, 0b01#2, 600#16, 0x24#6, 0b01#2, 0#2⟩ ∧
    regsOf (exec .goPedestrian (mk 4#4 0b10#2 0#16 0x24#6 0b01#2 0#2 (inp false 0))) = some ⟨4#4, 0b00#2, 0#16, 0x24#6, 0b01#2, 0#2⟩ := by
  decide

/-- Vector D14 and the worked example of rule R142. -/
theorem test_walkOnPhase1 :
    regsOf (exec .walkOnPhase1 (mk 5#4 0b00#2 0#16 0x24#6 0b01#2 0#2 (inp false 0))) = some ⟨5#4, 0b01#2, 50#16, 0x24#6, 0b10#2, 0#2⟩ ∧
    regsOf (exec .walkOnPhase1 (mk 5#4 0b10#2 0#16 0x24#6 0b10#2 0#2 (inp false 7))) = some ⟨6#4, 0b00#2, 0#16, 0x24#6, 0b10#2, 0#2⟩ := by
  decide

/-- Vector D15 and the worked example of rule R143. -/
theorem test_walkOffPhase1 :
    regsOf (exec .walkOffPhase1 (mk 6#4 0b00#2 0#16 0x24#6 0b10#2 0#2 (inp false 0))) = some ⟨6#4, 0b01#2, 50#16, 0x24#6, 0b00#2, 0#2⟩ ∧
    regsOf (exec .walkOffPhase1 (mk 6#4 0b10#2 0#16 0x24#6 0b00#2 0#2 (inp false 3))) = some ⟨7#4, 0b00#2, 0#16, 0x24#6, 0b00#2, 0#2⟩ := by
  decide

/-- The worked example of rule R144. -/
theorem test_walkOnPhase2 :
    regsOf (exec .walkOnPhase2 (mk 7#4 0b00#2 0#16 0x24#6 0b00#2 0#2 (inp false 0))) = some ⟨7#4, 0b01#2, 50#16, 0x24#6, 0b10#2, 0#2⟩ ∧
    regsOf (exec .walkOnPhase2 (mk 7#4 0b10#2 0#16 0x24#6 0b10#2 0#2 (inp false 0))) = some ⟨8#4, 0b00#2, 0#16, 0x24#6, 0b10#2, 0#2⟩ := by
  decide

/-- Vector D12 (scenario 3) and the worked example of rule R145. -/
theorem test_walkOffPhase2 :
    regsOf (exec .walkOffPhase2 (mk 8#4 0b10#2 0#16 0x24#6 0b00#2 0#2 (inp false 2))) = some ⟨0#4, 0b00#2, 0#16, 0x24#6, 0b00#2, 0#2⟩ ∧
    regsOf (exec .walkOffPhase2 (mk 8#4 0b10#2 0#16 0x24#6 0b00#2 0#2 (inp false 5))) = some ⟨2#4, 0b00#2, 0#16, 0x24#6, 0b00#2, 0#2⟩ := by
  decide

/-! ## The micro-operations: one step each -/

/-- Vectors D1, D2, D11, D13, D15 and D16. -/
theorem test_emit :
    regsOf (step (mk 0#4 0b00#2 0#16 0x24#6 0b10#2 0#2 (inp false 0))) = some ⟨0#4, 0b01#2, 600#16, 0x21#6, 0b10#2, 0#2⟩ ∧
    regsOf (step (mk 0#4 0b00#2 0#16 0x24#6 0b10#2 0#2 (inp true 0))) = some ⟨0#4, 0b01#2, 600#16, 0x21#6, 0b10#2, 0#2⟩ ∧
    regsOf (step (mk 1#4 0b00#2 0#16 0x21#6 0b10#2 0#2 (inp false 0))) = some ⟨1#4, 0b01#2, 200#16, 0x22#6, 0b10#2, 0#2⟩ ∧
    regsOf (step (mk 4#4 0b00#2 0#16 0x14#6 0b10#2 0#2 (inp false 0))) = some ⟨4#4, 0b01#2, 600#16, 0x24#6, 0b01#2, 0#2⟩ ∧
    regsOf (step (mk 6#4 0b00#2 0#16 0x24#6 0b10#2 0#2 (inp false 0))) = some ⟨6#4, 0b01#2, 50#16, 0x24#6, 0b00#2, 0#2⟩ ∧
    regsOf (step (mk 0#4 0b00#2 0#16 0x21#6 0b10#2 0#2 (inp false 0))) = some ⟨0#4, 0b01#2, 600#16, 0x21#6, 0b10#2, 0#2⟩ := by
  decide

/-- Vectors D3 to D6. -/
theorem test_hold :
    regsOf (step (mk 0#4 0b01#2 600#16 0x21#6 0b10#2 0#2 (inp false 7))) = some ⟨0#4, 0b01#2, 600#16, 0x21#6, 0b10#2, 0#2⟩ ∧
    regsOf (step (mk 0#4 0b01#2 600#16 0x21#6 0b10#2 0#2 (inp true 0))) = some ⟨0#4, 0b01#2, 599#16, 0x21#6, 0b10#2, 0#2⟩ ∧
    regsOf (step (mk 0#4 0b01#2 2#16 0x21#6 0b10#2 0#2 (inp true 0))) = some ⟨0#4, 0b01#2, 1#16, 0x21#6, 0b10#2, 0#2⟩ ∧
    regsOf (step (mk 0#4 0b01#2 1#16 0x21#6 0b10#2 0#2 (inp true 0))) = some ⟨0#4, 0b10#2, 0#16, 0x21#6, 0b10#2, 0#2⟩ := by
  decide

/-- Vectors D7 to D10 and D12. -/
theorem test_sample :
    regsOf (step (mk 0#4 0b10#2 0#16 0x21#6 0b10#2 0#2 (inp false 1))) = some ⟨1#4, 0b00#2, 0#16, 0x21#6, 0b10#2, 0#2⟩ ∧
    regsOf (step (mk 0#4 0b10#2 0#16 0x21#6 0b10#2 0#2 (inp true 0))) = some ⟨0#4, 0b00#2, 0#16, 0x21#6, 0b10#2, 0#2⟩ ∧
    regsOf (step (wide (mk 0#4 0b10#2 0#16 0x21#6 0b10#2 0#2 (inp false 0xF9)))) = some ⟨1#4, 0b00#2, 0#16, 0x21#6, 0b10#2, 0#2⟩ ∧
    regsOf (step (wide (mk 0#4 0b10#2 0#16 0x21#6 0b10#2 0#2 (inp false 0xFA)))) = some ⟨0#4, 0b00#2, 0#16, 0x21#6, 0b10#2, 0#2⟩ ∧
    regsOf (step (mk 8#4 0b10#2 0#16 0x24#6 0b00#2 0#2 (inp false 2))) = some ⟨0#4, 0b00#2, 0#16, 0x24#6, 0b00#2, 0#2⟩ := by
  decide

/-! ## Reset and faults -/

/-- Vectors Z2, Z3, Z4 and F11. -/
theorem test_reset :
    regsOf (step (mk 2#4 0b01#2 17#16 0x0C#6 0b10#2 0#2 rstIn)) = some ⟨0#4, 0b00#2, 0#16, 0x24#6, 0b10#2, 0#2⟩ ∧
    regsOf (step (mk 9#4 0b00#2 0#16 0x21#6 0b10#2 0b01#2 rstIn)) = some ⟨0#4, 0b00#2, 0#16, 0x24#6, 0b10#2, 0#2⟩ ∧
    regsOf (step (fresh (inp false 0))) = some ⟨0#4, 0b01#2, 600#16, 0x21#6, 0b10#2, 0#2⟩ := by decide

/-- Vectors F1 to F4. -/
theorem test_faults_codes :
    regsOf (step (mk 9#4 0b00#2 0#16 0x21#6 0b10#2 0#2 (inp false 0))) = some ⟨9#4, 0b00#2, 0#16, 0x21#6, 0b10#2, 0b01#2⟩ ∧
    regsOf (step (mk 15#4 0b10#2 0#16 0x21#6 0b10#2 0#2 (inp false 0))) = some ⟨15#4, 0b10#2, 0#16, 0x21#6, 0b10#2, 0b01#2⟩ ∧
    regsOf (step (mk 0#4 0b11#2 5#16 0x21#6 0b10#2 0#2 (inp false 0))) = some ⟨0#4, 0b11#2, 5#16, 0x21#6, 0b10#2, 0b10#2⟩ ∧
    regsOf (step (mk 9#4 0b11#2 0#16 0x21#6 0b10#2 0#2 (inp false 0))) = some ⟨9#4, 0b11#2, 0#16, 0x21#6, 0b10#2, 0b10#2⟩ := by
  decide

/-- Vectors F5 and F6 with their ports, and F7. -/
theorem test_faults_zeroHold :
    regsOf (step (mk 0#4 0b01#2 0#16 0x21#6 0b10#2 0#2 (inp true 0))) = some ⟨0#4, 0b01#2, 0#16, 0x21#6, 0b10#2, 0b11#2⟩ ∧
    portsOf (step (mk 0#4 0b01#2 0#16 0x21#6 0b10#2 0#2 (inp false 0))) = some (0x24#6, 0b10#2) ∧
    regsOf (step (mk 9#4 0b00#2 0#16 0x21#6 0b10#2 0b01#2 (inp true 7))) = some ⟨9#4, 0b00#2, 0#16, 0x21#6, 0b10#2, 0b01#2⟩ := by
  decide

/-- Vectors F8 to F10: the launch is refused, and so is the edge that would release reset. -/
theorem test_refused_launches :
    refusalOf (launch { defaultParams with table := tableZeroHold }) = some .malformedTable ∧
    refusalOf (launch { defaultParams with table := tableDangling }) = some .malformedTable ∧
    refusalOf (step (withTable tableStarving (fresh (inp false 0)))) = some .malformedTable ∧
    refusalOf ((mk 0#4 0b01#2 9#16 0x21#6 0b10#2 0#2 (inp false 0)).supplyTable defaultTable) = some .tableFrozen := by decide

/-! ## Observation -/

/-- WalkOnPhase1 with a hold of one tick, so that a drive cycle is three edges. -/
def tinyRow : RomEntry := { rowWalkOnPhase1 with hold := 1#16 }
def tinyTable : RomTable := defaultTable.set 5 tinyRow

/-- The EMIT edge of a WalkOnPhase1 cycle of the tiny table, with these inputs to come. -/
def tiny (l : List EdgeInput) : State :=
  { withTable tinyTable (mk 5#4 0b00#2 0#16 0x24#6 0b01#2 0#2 (inp false 0)) with inputs := l }

/-- Three edges of a shortest cycle (rule R163, corner case hold = 1). -/
def threeEdges : List EdgeInput := [inp true 0, inp true 0, inp true 3]

/-- Rule R171: the events of one cycle of three edges; and vector H1: the first EMIT edge is edge 1. -/
theorem test_trace :
    traceOf 3 (tiny threeEdges) = [(1, .emit 0x24#6 0b10#2), (2, .count), (3, .sample 3#3)] ∧
    traceOf 1 (fresh (inp true 0)) = [(1, .emit 0x21#6 0b10#2)] := by decide

/-- The end of the same bounded run: `cur` already names the next state. -/
theorem test_runCycles :
    (runCycles 3 1 (tiny threeEdges)).map regs = some ⟨6#4, 0b00#2, 0#16, 0x24#6, 0b10#2, 0#2⟩ := by decide

/-- Log entry 8: no end for a run with a reset edge in it, nor for one whose last SAMPLE edge faults and is then reset. -/
theorem test_runCycles_no_end :
    runCycles 9 1 (tiny ([inp true 0, rstIn] ++ threeEdges)) = none ∧
    runCycles 9 1 { withTable tableDangling (mk 0#4 0b10#2 0#16 0x21#6 0b10#2 0b00#2 (inp false 3)) with
      inputs := [inp false 3, rstIn] } = none := by decide

/-- Rule R224: with a tick of 10 ms, 600 ticks last 6 s and each blink state's 50 ticks 0.5 s. -/
theorem test_wallTime :
    (wallTime { defaultParams with tickPeriod := ⟨1, 100, .seconds⟩ } 600).same ⟨6, 1, .seconds⟩ = true ∧
    (wallTime { defaultParams with tickPeriod := ⟨1, 100, .seconds⟩ } 50).same ⟨1, 2, .seconds⟩ = true ∧
    (wallTime { defaultParams with tickPeriod := ⟨1, 100, .seconds⟩ } 600).same ⟨6, 1, .clocks⟩ = false := by decide

/-! ## Text forms -/

set_option maxRecDepth 20000 in
/-- The example of rule R86. -/
theorem test_listing_line :
    parseEntry 0#4 ("state GoNorthSouth = 0 : traffic 0b100001 ped 0b10 hold 600 next " ++
      "[GoNS, WaitNS, GoNS, WaitNS, WaitNS, WaitNS, WaitNS, WaitNS]").toList = some rowGoNorthSouth := by decide

set_option maxRecDepth 20000 in
/-- Rule R87: a line that names the alias is not accepted. -/
theorem test_listing_alias :
    parseEntry 8#4 ("state WaitPhaseOff2 = 8 : traffic 0b100100 ped 0b00 hold 50 next " ++
      "[GoNS, GoEW, GoNS, GoNS, GoNS, GoEW, GoNS, GoNS]").toList = none := by decide

set_option maxRecDepth 20000 in
/-- Stimulus lines: of program P2, of P5, and with a number of strobes. -/
theorem test_stimulus_lines :
    parseStimLine 0 "cycle 0: sense 0b001".toList = some ⟨1, none⟩ ∧
    parseStimLine 1 "cycle 1: sense raw 0x08".toList = some ⟨8, none⟩ ∧
    parseStimLine 2 "cycle 2: sense 0b110 ticks 50".toList = some ⟨6, some 50⟩ ∧
    parseStimLine 1 "cycle 2: sense 0b000".toList = none := by decide

/-! ## Witnesses: the hypotheses of each statement, met together -/

theorem witness_PostResetRegisters : (mk 9#4 0b11#2 17#16 0x3F#6 0b11#2 0b10#2 rstIn).ports.rst = true := by decide

theorem witness_ResetEdgeLoadsResetValues : (mk 2#4 0b01#2 17#16 0x0C#6 0b10#2 0b00#2 rstIn).ports.rst = true := by decide

/-- Two reset edges, then the edge that releases. -/
def resetTwice : State :=
  { mk 9#4 0b11#2 0#16 0x21#6 0b10#2 0b01#2 rstIn with inputs := [rstIn, rstIn] ++ [inp false 0] }

theorem witness_ResetMayBeHeld :
    ([rstIn, rstIn] ≠ [] ∧ (∀ i ∈ [rstIn, rstIn], i.rst = true) ∧ resetTwice.inputs = [rstIn, rstIn] ++ [inp false 0]) ∧
    ∃ t, runEdges 2 resetTwice = .next t ∧ t.ports.rst = false ∧ resetTwice.launched :=
  ⟨by decide, _, rfl, by decide, (by decide : paramsLegal resetTwice.params = true)⟩

theorem witness_FirstEdgeEmitsGoNorthSouth :
    State.reset.sameRegs (fresh (inp false 0)) ∧ (fresh (inp false 0)).ports.rst = false ∧ (fresh (inp false 0)).launched ∧
    (fresh (inp false 0)).params.table = defaultTable :=
  ⟨⟨rfl, rfl, rfl, rfl, rfl, rfl⟩, rfl, (by decide : paramsLegal defaultParams = true), rfl⟩

/-- Each clause: a launch, the release edge, a table supplied before release, one supplied after it. -/
theorem witness_MalformedTableIsRefused :
    wfTable { defaultParams with table := tableDangling }.table = false ∧
    ((withTable tableZeroHold (fresh (inp false 0))).ports.rst = false ∧
      (withTable tableZeroHold (fresh (inp false 0))).released = false ∧
      wfTable (withTable tableZeroHold (fresh (inp false 0))).params.table = false) ∧
    wfTable tableStarving = false ∧ (mk 0#4 0b00#2 0#16 0x24#6 0b10#2 0b00#2 (inp false 0)).released = true := by decide

theorem witness_LegalLaunchStartsPostReset :
    wfTable defaultParams.table = true ∧ 3 ≤ defaultParams.sensorRawW ∧ defaultParams.tickPeriod.positive = true := by decide

theorem witness_StepStopsOnlyAtRelease :
    ∀ t, step (withTable tableZeroHold (fresh (inp false 0))) ≠ .next t := by
  intro t h
  have : refusalOf (step (withTable tableZeroHold (fresh (inp false 0)))) = some .malformedTable := by decide
  rw [h] at this
  cases this

theorem witness_DecodeAndEncodeAgree : decode (.state4 8#4) = .ok .walkOffPhase2 ∧ decode (.phase2 2#2) = .ok .sample := by
  decide

theorem witness_IllegalCodesAreRejected : 8 < (9#4 : StateCode).toNat ∧ 8 < (15#4 : StateCode).toNat := by decide

/-- The narrowest legal port, and a wider one with an input above 7. -/
theorem witness_SenseIsMaskedToThreeBits :
    3 ≤ (fresh (inp false 7)).params.sensorRawW ∧ 3 ≤ (wide (fresh (inp false 0xFF))).params.sensorRawW := by decide

theorem witness_ListingRoundTrip : noDangling defaultTable = true ∧ (8#4 : StateCode).toNat ≤ 8 := by decide

/-- Each direction: a full name and an abbreviation that are accepted, of the first and of the last state. -/
theorem witness_AliasIsNotAccepted :
    identCode "GoNorthSouth".toList = some codeGoNorthSouth ∧ identCode "GoNS".toList = some codeGoNorthSouth ∧
    identCode "WOff2".toList = some codeWalkOffPhase2 ∧ identCode "WalkOffPhase2".toList = some codeWalkOffPhase2 := by decide

/-- The four clauses of the nine row statements: EMIT, HOLD with a strobe at the last tick and before, HOLD without, SAMPLE. -/
theorem witness_RunsEntry :
    let s := fun ph cnt tick => mk 0#4 ph cnt 0x21#6 0b10#2 0b00#2 (inp tick 1)
    ((s 0b00#2 0#16 false).params.table = defaultTable ∧ (s 0b00#2 0#16 false).ph = phaseEmit) ∧
    ((s 0b01#2 1#16 true).ph = phaseHold ∧ (s 0b01#2 1#16 true).cnt ≠ 0#16 ∧ (s 0b01#2 1#16 true).ports.tick = true) ∧
    ((s 0b01#2 65535#16 true).ph = phaseHold ∧ (s 0b01#2 65535#16 true).cnt ≠ 0#16 ∧ (s 0b01#2 65535#16 true).ports.tick = true) ∧
    ((s 0b01#2 1#16 false).ph = phaseHold ∧ (s 0b01#2 1#16 false).cnt ≠ 0#16 ∧ (s 0b01#2 1#16 false).ports.tick = false) ∧
    (s 0b10#2 0#16 false).ph = phaseSample := by decide

/-- The added clauses of GoPedestrian and WalkOnPhase1: an entry that lights walk, and cells that lead to the two states. -/
theorem witness_PedestrianRows :
    romRead defaultTable 4#4 = some rowGoPedestrian ∧ lampWalk rowGoPedestrian.ped = true ∧
    nextState defaultTable 1#4 4#3 = .ok codeGoPedestrian ∧ nextState defaultTable 4#4 1#3 = .ok codeWalkOnPhase1 := by decide

/-- Every clause, for the last code; the tables make the faulting clauses possible. -/
theorem witness_StateWordExecutesItsEntry :
    (decode (.state4 8#4) = .ok .walkOffPhase2 ∧ romRead defaultTable 8#4 = some rowWalkOffPhase2 ∧ rowWalkOffPhase2.hold ≠ 0#16 ∧
      (entryNext rowWalkOffPhase2 1#3).toNat ≤ 8) ∧
    (decode (.state4 1#4) = .ok .waitNorthSouth ∧
      (romRead tableZeroHold 1#4).map (·.hold) = some 0#16) ∧
    (decode (.state4 0#4) = .ok .goNorthSouth ∧ (romRead tableDangling 0#4).map (fun e => (entryNext e 3#3).toNat) = some 12) ∧
    (mk 0#4 0b11#2 0#16 0x21#6 0b10#2 0b00#2 (inp false 0)).ph = 0b11#2 := by decide

/-- The clauses of EMIT at their boundaries: code 9, an entry with hold 0, an entry with hold 1. -/
theorem witness_EmitEdge :
    8 < (mk 9#4 0b00#2 0#16 0x21#6 0b10#2 0b00#2 (inp false 0)).cur.toNat ∧
    (romRead tableZeroHold 1#4).map (·.hold) = some 0#16 ∧ (romRead tinyTable 5#4).map (·.hold) = some 1#16 := by decide

theorem witness_HoldEdge :
    (mk 0#4 0b01#2 0#16 0x21#6 0b10#2 0b00#2 (inp true 0)).cnt = 0#16 ∧
    ((mk 0#4 0b01#2 1#16 0x21#6 0b10#2 0b00#2 (inp true 0)).cnt ≠ 0#16 ∧
      (mk 0#4 0b01#2 1#16 0x21#6 0b10#2 0b00#2 (inp true 0)).ports.tick = true) ∧
    ((mk 0#4 0b01#2 65535#16 0x21#6 0b10#2 0b00#2 (inp false 0)).cnt ≠ 0#16 ∧
      (mk 0#4 0b01#2 65535#16 0x21#6 0b10#2 0b00#2 (inp false 0)).ports.tick = false) := by decide

/-- The clauses of SAMPLE: code 9, a successor of 12, a successor of 8. -/
theorem witness_SampleEdge :
    8 < (mk 9#4 0b10#2 0#16 0x21#6 0b10#2 0b00#2 (inp false 0)).cur.toNat ∧
    (romRead tableDangling 0#4).map (fun e => (entryNext e 3#3).toNat) = some 12 ∧
    (romRead defaultTable 7#4).map (fun e => (entryNext e 0#3).toNat) = some 8 := by decide

/-- A controller with the illegal phase code, and the edge that faults. -/
def badPhase : State := mk 9#4 0b11#2 0#16 0x21#6 0b10#2 0b00#2 (inp false 0)

theorem witness_IllegalPhaseRaisesFault :
    badPhase.Runs ∧ badPhase.flt = 0b00#2 ∧ badPhase.ph = 0b11#2 ∧ (regsOf (step badPhase)).map (·.ph) = some 0b11#2 :=
  ⟨⟨by decide, by decide⟩, by decide, by decide, by decide⟩

/-- The four clauses: reset, a faulted controller, a legal phase, the illegal phase. -/
theorem witness_StepRunsDecodedPhase :
    (mk 0#4 0b01#2 5#16 0x21#6 0b10#2 0b00#2 rstIn).ports.rst = true ∧
    ((mk 9#4 0b00#2 0#16 0x21#6 0b10#2 0b01#2 (inp true 0)).Runs ∧
      (mk 9#4 0b00#2 0#16 0x21#6 0b10#2 0b01#2 (inp true 0)).flt ≠ 0b00#2) ∧
    ((mk 0#4 0b10#2 0#16 0x21#6 0b10#2 0b00#2 (inp true 0)).Runs ∧ decode (.phase2 0b10#2) = .ok .sample) ∧
    (badPhase.Runs ∧ badPhase.flt = 0b00#2 ∧ ∀ i, decode (.phase2 badPhase.ph) ≠ .ok i) :=
  ⟨by decide, ⟨⟨by decide, by decide⟩, by decide⟩, ⟨⟨by decide, by decide⟩, by decide⟩,
    ⟨by decide, by decide⟩, by decide, fun i h => by cases h⟩

theorem witness_StepRunsDecodedStateWord :
    let s := mk 8#4 0b00#2 0#16 0x24#6 0b10#2 0b00#2 (inp false 0)
    s.Runs ∧ s.flt = 0b00#2 ∧ decode (.state4 s.cur) = .ok .walkOffPhase2 :=
  ⟨⟨by decide, by decide⟩, by decide, by decide⟩

/-- The three ways in which `cnt` changes, each by one step: reset, EMIT, and a tick from the largest value. -/
theorem witness_CounterArithmetic :
    (regsOf (step (mk 0#4 0b01#2 5#16 0x21#6 0b10#2 0b00#2 rstIn))).map (·.cnt) = some 0#16 ∧
    (regsOf (step (mk 5#4 0b00#2 0#16 0x24#6 0b01#2 0b00#2 (inp false 0)))).map (·.cnt) = some 50#16 ∧
    (regsOf (step (mk 0#4 0b01#2 65535#16 0x21#6 0b10#2 0b00#2 (inp true 0)))).map (·.cnt) = some 65534#16 := by decide

/-- A step that raises each fault, and one that raises none. -/
theorem witness_FaultDetectionPoints :
    let after := fun s => (regsOf (step s)).map (·.flt)
    (badPhase.Runs ∧ badPhase.flt = 0b00#2) ∧ after badPhase = some 0b10#2 ∧
    after (mk 9#4 0b00#2 0#16 0x21#6 0b10#2 0b00#2 (inp false 0)) = some 0b01#2 ∧
    after (withTable tableDangling (mk 0#4 0b10#2 0#16 0x21#6 0b10#2 0b00#2 (inp false 3))) = some 0b01#2 ∧
    after (withTable tableZeroHold (mk 1#4 0b00#2 0#16 0x21#6 0b10#2 0b00#2 (inp false 0))) = some 0b11#2 ∧
    after (mk 0#4 0b01#2 0#16 0x21#6 0b10#2 0b00#2 (inp false 0)) = some 0b11#2 ∧
    after (mk 8#4 0b00#2 0#16 0x21#6 0b10#2 0b00#2 (inp false 0)) = some 0b00#2 :=
  ⟨⟨⟨by decide, by decide⟩, by decide⟩, by decide, by decide, by decide, by decide, by decide, by decide⟩

/-- A faulted controller with two edges to come. -/
def faulted : State :=
  { mk 9#4 0b00#2 0#16 0x21#6 0b10#2 0b01#2 (inp true 7) with inputs := [inp true 7, inp false 1] ++ [rstIn] }

theorem witness_FaultEntryAndQuiescence :
    (badPhase.flt = 0b00#2 ∧ (regsOf (step badPhase)).map (·.flt) = some 0b10#2) ∧
    (faulted.flt ≠ 0b00#2 ∧ faulted.releaseRefusal = none ∧ noReset [inp true 7, inp false 1] ∧
      faulted.inputs = [inp true 7, inp false 1] ++ [rstIn]) :=
  ⟨by decide, by decide, by decide, (by decide : ∀ i ∈ [inp true 7, inp false 1], i.rst = false), rfl⟩

/-- Each clause's premises: reset, faulted, illegal phase on an illegal `cur`, and EMIT and SAMPLE with an illegal `cur`. -/
theorem witness_FaultPriority :
    (mk 9#4 0b11#2 0#16 0x21#6 0b10#2 0b01#2 rstIn).ports.rst = true ∧
    (faulted.Runs ∧ faulted.flt ≠ 0b00#2) ∧
    (badPhase.Runs ∧ badPhase.flt = 0b00#2 ∧ badPhase.ph = 0b11#2 ∧ 8 < badPhase.cur.toNat) ∧
    ((mk 9#4 0b00#2 0#16 0x21#6 0b10#2 0b00#2 (inp false 0)).Runs ∧ 8 < (9#4 : StateCode).toNat) ∧
    ((mk 15#4 0b10#2 0#16 0x21#6 0b10#2 0b00#2 (inp false 0)).Runs ∧ 8 < (15#4 : StateCode).toNat) ∧
    (romRead tableZeroHold 1#4).map (·.hold) = some 0#16 ∧
    (romRead tableDangling 0#4).map (fun e => (entryNext e 3#3).toNat) = some 12 :=
  ⟨by decide, ⟨⟨by decide, by decide⟩, by decide⟩, ⟨⟨by decide, by decide⟩, by decide, by decide, by decide⟩,
    ⟨⟨by decide, by decide⟩, by decide⟩, ⟨⟨by decide, by decide⟩, by decide⟩, by decide, by decide⟩

theorem witness_OnlyResetLeavesFault :
    let s := mk 9#4 0b00#2 0#16 0x21#6 0b10#2 0b01#2 rstIn
    s.flt ≠ 0b00#2 ∧ (regsOf (step s)).map (·.flt) = some 0b00#2 := by decide

theorem witness_PortsUnderFault :
    (mk 0#4 0b01#2 5#16 0x21#6 0b10#2 0b00#2 (inp false 0)).flt = 0b00#2 ∧ faulted.flt ≠ 0b00#2 := by decide

/-- Two steps that change `cur`: a reset edge and a SAMPLE edge. -/
theorem witness_CurHasOneWriter :
    (regsOf (step (mk 2#4 0b01#2 5#16 0x0C#6 0b10#2 0b00#2 rstIn))).map (·.cur) = some 0#4 ∧
    (regsOf (step (mk 0#4 0b10#2 0#16 0x21#6 0b10#2 0b00#2 (inp false 1)))).map (·.cur) = some 1#4 := by decide

/-- Three steps that change the ports: reset, EMIT, and the entry of a fault. -/
theorem witness_PortsChangeOnlyAt :
    portsOf (step (mk 2#4 0b01#2 5#16 0x0C#6 0b10#2 0b00#2 rstIn)) = some (0x24#6, 0b10#2) ∧
    portsOf (step (mk 1#4 0b00#2 0#16 0x21#6 0b10#2 0b00#2 (inp false 0))) = some (0x22#6, 0b10#2) ∧
    portsOf (step badPhase) = some (0x24#6, 0b10#2) ∧ (badPhase.trafficOut, badPhase.pedOut) = (0x21#6, 0b10#2) := by decide

theorem witness_ConfigurationNeverChanges :
    (regsOf (step (mk 0#4 0b01#2 1#16 0x21#6 0b10#2 0b00#2 (inp true 0)))).isSome = true := by decide

theorem witness_SensorReadOnlyAtSample :
    (inp true 0).rst = (inp true 7).rst ∧ (inp true 0).tick = (inp true 7).tick ∧
    (mk 0#4 0b01#2 1#16 0x21#6 0b10#2 0b00#2 (inp true 0)).ph ≠ phaseSample := by decide

theorem witness_TickReadOnlyInHold :
    (inp true 3).rst = (inp false 3).rst ∧ (inp true 3).sensorRaw = (inp false 3).sensorRaw ∧
    (mk 0#4 0b10#2 0#16 0x21#6 0b10#2 0b00#2 (inp true 3)).ph ≠ phaseHold := by decide

theorem witness_HighSensorBitsDoNotMatter :
    3 ≤ (wide (fresh (inp false 0xF9))).params.sensorRawW ∧ (inp false 0xF9).rst = (inp false 1).rst ∧
    (inp false 0xF9).tick = (inp false 1).tick ∧ (inp false 0xF9).sensorRaw % 8 = (inp false 1).sensorRaw % 8 := by decide

/-- An edge with each kind of event, and one with none. -/
theorem witness_EventsReportTheEdge :
    (mk 0#4 0b01#2 5#16 0x21#6 0b10#2 0b00#2 rstIn).edgeEvent = some .reset ∧
    (mk 4#4 0b00#2 0#16 0x14#6 0b10#2 0b00#2 (inp false 0)).edgeEvent = some (.emit 0x24#6 0b01#2) ∧
    (mk 0#4 0b01#2 1#16 0x21#6 0b10#2 0b00#2 (inp true 0)).edgeEvent = some .count ∧
    (mk 0#4 0b10#2 0#16 0x21#6 0b10#2 0b00#2 (inp false 5)).edgeEvent = some (.sample 5#3) ∧
    badPhase.edgeEvent = some (.fault .illegalPhase) ∧
    (mk 0#4 0b01#2 1#16 0x21#6 0b10#2 0b00#2 (inp false 0)).edgeEvent = none := by decide

/-- A launch with other parameters than the defaults: a table with a hold of one tick, a port of 8 bits, a tick of 10 ms. -/
theorem witness_ResetIsSound :
    refusalOf (launch ⟨tinyTable, 8, ⟨1, 100, .seconds⟩⟩) = none ∧
    regsOf (launch ⟨tinyTable, 8, ⟨1, 100, .seconds⟩⟩) = some ⟨0#4, 0b00#2, 0#16, 0x24#6, 0b10#2, 0#2⟩ := by decide

/-- Three sound states: at the start, in HOLD at its last tick, and at SAMPLE. -/
theorem witness_StepKeepsSound :
    (fresh (inp false 0)).Sound ∧ (mk 8#4 0b01#2 1#16 0x24#6 0b00#2 0b00#2 (inp true 0)).Sound ∧
    (mk 8#4 0b10#2 0#16 0x24#6 0b00#2 0b00#2 (inp false 1)).Sound :=
  ⟨⟨(by decide : paramsLegal defaultParams = true), by decide, by decide, by decide, by decide⟩,
    ⟨(by decide : paramsLegal defaultParams = true), by decide, by decide, by decide, by decide⟩,
    ⟨(by decide : paramsLegal defaultParams = true), by decide, by decide, by decide, by decide⟩⟩

/-- The EMIT edge of GoEastWest: the ports still show WaitNorthSouth, whose successor it is. -/
def beforeGoEW : State := mk 2#4 0b00#2 0#16 0x22#6 0b10#2 0b00#2 (inp false 0)

theorem beforeGoEW_sound : beforeGoEW.Sound :=
  ⟨(by decide : paramsLegal defaultParams = true), by decide, by decide, by decide, by decide⟩

theorem beforeGoEW_showsEntry : beforeGoEW.ShowsEntry :=
  ⟨fun h => absurd rfl h,
    fun _ => .inr ⟨1#4, rowWaitNorthSouth, 1#3, by decide, by decide, by decide, by decide⟩⟩

theorem witness_StepKeepsShowsEntry :
    beforeGoEW.Sound ∧ beforeGoEW.ShowsEntry ∧ (regsOf (step beforeGoEW)).isSome = true :=
  ⟨beforeGoEW_sound, beforeGoEW_showsEntry, by decide⟩

theorem witness_LampsAreLegal : (beforeGoEW.Sound ∧ beforeGoEW.ShowsEntry) ∧ faulted.flt ≠ 0b00#2 :=
  ⟨⟨beforeGoEW_sound, beforeGoEW_showsEntry⟩, by decide⟩

/-- The edge at which E/W turns green. -/
theorem witness_NoGreenToGreenEdge :
    beforeGoEW.Sound ∧ beforeGoEW.ShowsEntry ∧ portsOf (step beforeGoEW) = some (0x0C#6, 0b10#2) :=
  ⟨beforeGoEW_sound, beforeGoEW_showsEntry, by decide⟩

/-- One tick left: the clause of fewer strobes with none, and the clause of the last strobe; and the largest counter. -/
theorem witness_HoldIsExact :
    let s := mk 0#4 0b01#2 1#16 0x21#6 0b10#2 0b00#2 (inp true 0)
    (s.flt = 0b00#2 ∧ s.releaseRefusal = none ∧ s.ph = phaseHold) ∧
    (noReset [] ∧ s.inputs = [] ++ [inp true 0] ∧ strobes [] < s.cnt.toNat) ∧
    (noReset [inp true 0] ∧ s.inputs = [inp true 0] ++ [] ∧ [inp true 0] = [] ++ [inp true 0] ∧
      (inp true 0).tick = true ∧ strobes [inp true 0] = s.cnt.toNat) ∧
    strobes [inp true 0] < (65535#16 : Ticks).toNat :=
  ⟨by decide, ⟨(by decide : ∀ i ∈ ([] : List EdgeInput), i.rst = false), rfl, by decide⟩,
    ⟨(by decide : ∀ i ∈ [inp true 0], i.rst = false), rfl, rfl, rfl, by decide⟩, by decide⟩

/-- The three edges of the tiny table's WalkOnPhase1 cycle follow the drive cycle. -/
theorem tiny_follows : FollowsDrive 3 tinyTable 5#4 [3#3] threeEdges 6#4 :=
  .cycle (l := []) (d := ⟨0x24#6, 0b10#2, 1#16, 6#4⟩) (e := inp true 0) (last := inp true 0) (z := inp true 3) (rest := [])
    (by decide) (by decide : ∀ i ∈ threeEdges, i.rst = false) (by decide) rfl (by decide) (.nil _)

theorem witness_RunFollowsDriveCycles :
    let s := tiny (threeEdges ++ [rstIn])
    s.flt = 0b00#2 ∧ s.releaseRefusal = none ∧ s.ph = phaseEmit ∧
    FollowsDrive s.params.sensorRawW s.params.table s.cur [3#3] threeEdges 6#4 ∧ s.inputs = threeEdges ++ [rstIn] :=
  ⟨by decide, by decide, by decide, tiny_follows, rfl⟩

/-- With the first and the last edge of the cycle. -/
theorem witness_CycleOutputsAreConstant :
    let s := tiny (threeEdges ++ [rstIn])
    s.flt = 0b00#2 ∧ s.releaseRefusal = none ∧ s.ph = phaseEmit ∧
    FollowsDrive s.params.sensorRawW s.params.table s.cur [3#3] threeEdges 6#4 ∧
    romRead s.params.table s.cur = some tinyRow ∧ s.inputs = threeEdges ++ [rstIn] ∧
    (1 ≤ 1 ∧ 1 ≤ threeEdges.length) ∧ (1 ≤ 3 ∧ 3 ≤ threeEdges.length) :=
  ⟨by decide, by decide, by decide, tiny_follows, by decide, rfl, by decide, by decide⟩

/-- The shortest cycle of all: a hold of one tick, three edges. -/
theorem witness_ShortestCycleLength :
    let s := tiny (threeEdges ++ [])
    s.flt = 0b00#2 ∧ s.releaseRefusal = none ∧ s.ph = phaseEmit ∧ romRead s.params.table s.cur = some tinyRow ∧
    tinyRow.hold ≠ 0#16 ∧ noDangling s.params.table = true ∧ noReset threeEdges ∧ (∀ i ∈ threeEdges, i.tick = true) ∧
    threeEdges.length = tinyRow.hold.toNat + 2 ∧ s.inputs = threeEdges ++ [] ∧ 1 ≤ 2 ∧ 2 < threeEdges.length :=
  ⟨by decide, by decide, by decide, by decide, by decide, by decide,
    (by decide : ∀ i ∈ threeEdges, i.rst = false), by decide, by decide, rfl, by decide, by decide⟩

/-- The smallest period, 3, with a hold of one tick. -/
theorem witness_PulsedCycleLength :
    let l := (List.range (tinyRow.hold.toNat * 3)).map (fun j => (⟨false, (j + 2) % 3 == 0, 5⟩ : EdgeInput)) ++ [rstIn]
    let s := tiny l
    3 ≤ 3 ∧ s.flt = 0b00#2 ∧ s.releaseRefusal = none ∧ s.ph = phaseEmit ∧ romRead s.params.table s.cur = some tinyRow ∧
    tinyRow.hold ≠ 0#16 ∧ noDangling s.params.table = true ∧ s.inputs = l ∧ 1 ≤ 2 ∧ 2 < tinyRow.hold.toNat * 3 :=
  ⟨by decide, by decide, by decide, by decide, by decide, by decide, by decide, rfl, by decide, by decide⟩

/-- The EMIT edge of WalkOnPhase1 of the default table, before any edge and after two of them. -/
def beforeBlink : State :=
  { mk 5#4 0b00#2 0#16 0x24#6 0b01#2 0b00#2 (inp false 0) with inputs := [inp true 0, inp true 7] ++ [rstIn] }

theorem witness_ClearanceIsNotCutShort :
    (beforeBlink.flt = 0b00#2 ∧ beforeBlink.releaseRefusal = none ∧ beforeBlink.params.table = defaultTable ∧
      beforeBlink.ph = phaseEmit ∧ beforeBlink.cur = codeWalkOnPhase1) ∧
    (noReset [] ∧ countedTicks (traceOf 0 beforeBlink) < 200) ∧
    (noReset [inp true 0, inp true 7] ∧ beforeBlink.inputs = [inp true 0, inp true 7] ++ [rstIn] ∧
      [inp true 0, inp true 7] ≠ [] ∧ countedTicks (traceOf 2 beforeBlink) = 1) :=
  ⟨by decide, ⟨(by decide : ∀ i ∈ ([] : List EdgeInput), i.rst = false), by decide⟩,
    (by decide : ∀ i ∈ [inp true 0, inp true 7], i.rst = false), rfl, by decide, by decide⟩

/-- A total table that passes the check and one that fails it. -/
theorem witness_ReachabilityCheckIsExact :
    (isTotal defaultTable = true ∧ allReachable defaultTable = true) ∧
    (isTotal tableUnreachable = true ∧ allReachable tableUnreachable = false) := by decide

/-- Vector F10's table is total and fails the check. -/
theorem witness_LivenessCheckIsExact :
    (isTotal defaultTable = true ∧ pedestrianLive defaultTable = true) ∧
    (isTotal tableStarving = true ∧ pedestrianLive tableStarving = false) := by decide

/-- Rule R108: the worst case is N = 1 at the samples; program P4 from its cycle 2 on. -/
theorem witness_PedestrianIsServedWithin :
    (List.replicate 4 (0b110#3 : Sense)).length = 4 ∧ (∀ x ∈ List.replicate 4 (0b110#3 : Sense), senseP x = true) ∧
    driveTo defaultTable codeGoEastWest (List.replicate 4 0b110#3) = some codeGoPedestrian ∧
    driveTicks defaultTable codeGoEastWest (List.replicate 4 0b110#3) = some 1600 := by decide

/-- The premises at the first and the last code, and with each `cur` that a clause names. -/
theorem witness_BlinkAndWaitStatesAdvance :
    ∀ c ∈ [0#4, 5#4, 6#4, 7#4, 8#4, 1#4, 3#4],
      let s := mk c 0b10#2 0#16 0x24#6 0b10#2 0b00#2 (inp false 7)
      wfTable s.params.table = true ∧ s.ports.rst = false ∧ s.releaseRefusal = none ∧ s.flt = 0b00#2 ∧
      s.ph = phaseSample ∧ s.cur.toNat ≤ 8 := by decide

end Sys2Proof.Tests
end

section
/-! Launch and release: which parameters are legal, and what a launch with them is. -/

namespace Sys2Proof.Machine

/-- The legal parameters of rules R7 and R113. -/
theorem paramsRefusal_eq_none_iff (p : Params) :
    paramsRefusal p = none ↔ wfTable p.table = true ∧ 3 ≤ p.sensorRawW ∧ p.tickPeriod.positive = true := by
  unfold paramsRefusal
  cases wfTable p.table with
  | false => simp
  | true => simp

theorem State.launched_iff (s : State) : s.launched ↔ paramsRefusal s.params = none := by
  simp [State.launched, paramsLegal]

theorem launch_of_legal {p : Params} (h : paramsRefusal p = none) :
    launch p = .next { State.reset with params := p } := by
  simp [launch, h]

/-- Rule R222 holds at the start of a run, whatever the legal parameters are. -/
theorem reset_withParams_sound {p : Params} (h : paramsRefusal p = none) :
    State.Sound { State.reset with params := p } :=
  ⟨(State.launched_iff _).2 h, rfl, (by decide : State.reset.cur.toNat ≤ 8), (by decide : State.reset.ph.toNat ≤ 2),
    fun hp => absurd hp (by decide : State.reset.ph ≠ phaseHold)⟩

theorem State.releaseRefusal_eq_some_iff (s : State) (r : Refusal) :
    s.releaseRefusal = some r ↔ s.released = false ∧ paramsRefusal s.params = some r := by
  unfold State.releaseRefusal
  cases s.released with
  | false => simp
  | true => simp

/-- Settles O6: legal parameters are refused by nothing, and the post-reset state is sound with any of them. -/
theorem legalLaunchStartsPostReset : Obligations.LegalLaunchStartsPostReset := by
  intro p hwf hwidth hperiod
  have hp : paramsRefusal p = none := (paramsRefusal_eq_none_iff p).2 ⟨hwf, hwidth, hperiod⟩
  exact ⟨_, launch_of_legal hp, ⟨rfl, rfl, rfl, rfl, rfl, rfl⟩, rfl, reset_withParams_sound hp⟩

/-- Settles O7: of the four ways a step can go, only the refusal of a release answers no next state. -/
theorem stepStopsOnlyAtRelease : Obligations.StepStopsOnlyAtRelease := by
  intro s hstop
  obtain ⟨-, hs⟩ | ⟨hrst, r, hr, hs⟩ | ⟨-, -, -, hs⟩ | ⟨-, -, -, hs⟩ := step_cases s
  · exact absurd hs (hstop _)
  · obtain ⟨hreleased, hp⟩ := (s.releaseRefusal_eq_some_iff r).1 hr
    exact ⟨hrst, hreleased, r, hp, hs⟩
  · exact absurd hs (hstop _)
  · exact absurd hs (hstop _)

end Sys2Proof.Machine
end

section
/-! The state under one edge: the step equation of each way an edge can go, what an edge leaves unchanged, the one writer
of `cur`, and the inputs that an edge does not read. -/

namespace Sys2Proof.Machine

/-! The step, one equation per way of `step_cases`. -/

theorem step_of_rst {s : State} (h : s.ports.rst = true) : step s = .next s.doReset.endEdge := by
  simp [step, h]

theorem step_of_releaseRefusal {s : State} {r : Refusal} (hrst : s.ports.rst = false)
    (hr : s.releaseRefusal = some r) : step s = .refused r := by
  simp [step, hrst, hr]

theorem State.Runs.step_eq {s : State} (h : s.Runs) :
    step s = mapNext (fun t => t.release.endEdge) (runEdge s) := by
  obtain ⟨hrst, hrel⟩ := h
  simp [step, hrst, hrel]

theorem State.Runs.step_of_faulted {s : State} (h : s.Runs) (hflt : s.flt ≠ 0b00#2) :
    step s = .next s.release.endEdge := by
  simp [h.step_eq, runEdge, hflt, mapNext]

theorem State.Runs.step_of_not_faulted {s : State} (h : s.Runs) (hflt : s.flt = 0b00#2) :
    step s = .next (entryEdge s.cur s).release.endEdge := by
  simp [h.step_eq, runEdge, hflt, runPhase_eq, mapNext]

/-! A state word is its entry's edge, whatever `cur` holds. -/

/-- The decoder of `cur` accepts only the encoder's words (rules R71, R83). -/
theorem encode_of_decodeState {c : StateCode} {i : Instr} (h : decodeState c = .ok i) : encode i = .state4 c := by
  unfold decodeState at h
  split at h
  all_goals cases h
  all_goals
    rename_i hc
    exact congrArg CodeWord.state4 (BitVec.eq_of_toNat_eq hc.symm)

theorem exec_of_encode_state4 {i : Instr} {c : StateCode} (h : encode i = .state4 c) (s : State) :
    exec i s = .next (entryEdge c s) := by
  cases i <;> cases h <;> rfl

theorem exec_of_decodeState {c : StateCode} {i : Instr} (h : decodeState c = .ok i) (s : State) :
    exec i s = .next (entryEdge c s) :=
  exec_of_encode_state4 (encode_of_decodeState h) s

/-! What no edge writes: the parameters, and the model's own fields until `step` ends the edge. -/

/-- The two states agree in everything that is no register. -/
def State.sameConfig (s t : State) : Prop :=
  t.params = s.params ∧ t.released = s.released ∧ t.inputs = s.inputs ∧ t.edge = s.edge

theorem emitEdge_sameConfig (c : StateCode) (s : State) : s.sameConfig (emitEdge c s) := by
  obtain ⟨-, h⟩ | ⟨e, -, ⟨-, h⟩ | ⟨-, h⟩⟩ := emitEdge_cases c s
  all_goals rw [h]; exact ⟨rfl, rfl, rfl, rfl⟩

theorem holdEdge_sameConfig (s : State) : s.sameConfig (holdEdge s) := by
  obtain ⟨-, h⟩ | ⟨-, -, h⟩ | ⟨-, -, h⟩ := holdEdge_cases s
  all_goals rw [h]; exact ⟨rfl, rfl, rfl, rfl⟩

theorem sampleEdge_sameConfig (c : StateCode) (s : State) : s.sameConfig (sampleEdge c s) := by
  obtain ⟨-, h⟩ | ⟨n, -, h⟩ := sampleEdge_cases c s
  all_goals rw [h]; exact ⟨rfl, rfl, rfl, rfl⟩

theorem entryEdge_sameConfig (c : StateCode) (s : State) : s.sameConfig (entryEdge c s) := by
  obtain h | h | h | h := phase_cases s.ph
  · rw [entryEdge_emit h]; exact emitEdge_sameConfig c s
  · rw [entryEdge_hold h]; exact holdEdge_sameConfig s
  · rw [entryEdge_sample h]; exact sampleEdge_sameConfig c s
  · rw [entryEdge_illegal h]; exact ⟨rfl, rfl, rfl, rfl⟩

@[simp] theorem entryEdge_params (c : StateCode) (s : State) : (entryEdge c s).params = s.params :=
  (entryEdge_sameConfig c s).1

/-- An instruction is the edge of an entry, or a micro-operation on `cur`'s entry. -/
theorem exec_cases (i : Instr) (s : State) :
    (∃ c, encode i = .state4 c ∧ exec i s = .next (entryEdge c s)) ∨
    (i = .emit ∧ exec i s = .next (emitEdge s.cur s)) ∨
    (i = .hold ∧ exec i s = .next (holdEdge s)) ∨
    (i = .sample ∧ exec i s = .next (sampleEdge s.cur s)) := by
  cases i with
  | emit => exact .inr (.inl ⟨rfl, rfl⟩)
  | hold => exact .inr (.inr (.inl ⟨rfl, rfl⟩))
  | sample => exact .inr (.inr (.inr ⟨rfl, rfl⟩))
  | _ => exact .inl ⟨_, rfl, rfl⟩

theorem exec_sameConfig (i : Instr) (s : State) : ∃ t, exec i s = .next t ∧ s.sameConfig t := by
  obtain ⟨c, -, h⟩ | ⟨-, h⟩ | ⟨-, h⟩ | ⟨-, h⟩ := exec_cases i s
  · exact ⟨_, h, entryEdge_sameConfig c s⟩
  · exact ⟨_, h, emitEdge_sameConfig s.cur s⟩
  · exact ⟨_, h, holdEdge_sameConfig s⟩
  · exact ⟨_, h, sampleEdge_sameConfig s.cur s⟩

theorem step_params {s t : State} (h : step s = .next t) : t.params = s.params := by
  obtain ⟨-, hs⟩ | ⟨-, r, -, hs⟩ | ⟨-, -, -, hs⟩ | ⟨-, -, -, hs⟩ := step_cases s
  all_goals rw [hs] at h; cases h
  all_goals simp

/-! The one writer of `cur`. -/

@[simp] theorem emitEdge_cur (c : StateCode) (s : State) : (emitEdge c s).cur = s.cur := by
  obtain ⟨-, h⟩ | ⟨e, -, ⟨-, h⟩ | ⟨-, h⟩⟩ := emitEdge_cases c s
  all_goals simp [h]

@[simp] theorem holdEdge_cur (s : State) : (holdEdge s).cur = s.cur := by
  obtain ⟨-, h⟩ | ⟨-, -, h⟩ | ⟨-, -, h⟩ := holdEdge_cases s
  all_goals simp [h]

/-- An entry's edge keeps `cur`, or it is a SAMPLE edge and loads the successor (rules R27, R164). -/
theorem entryEdge_cur_cases (c : StateCode) (s : State) :
    (entryEdge c s).cur = s.cur ∨
    (s.ph = phaseSample ∧ nextState s.params.table c s.sense = .ok (entryEdge c s).cur) := by
  obtain h | h | h | h := phase_cases s.ph
  · exact .inl (by rw [entryEdge_emit h, emitEdge_cur])
  · exact .inl (by rw [entryEdge_hold h, holdEdge_cur])
  · rw [entryEdge_sample h]
    obtain ⟨-, he⟩ | ⟨n, hn, he⟩ := sampleEdge_cases c s
    · exact .inl (by rw [he, State.takeFault_cur])
    · exact .inr ⟨h, by rw [he]; exact hn⟩
  · exact .inl (by rw [entryEdge_illegal h, State.takeFault_cur])

/-! The inputs that an edge does not read. -/

/-- The next input reaches a step only through `rst` and the edge of `cur`'s entry. -/
theorem step_congr_next_input {s : State} {i j : EdgeInput} {l : List EdgeInput} (hrst : i.rst = j.rst)
    (hedge : (entryEdge s.cur { s with inputs := i :: l }).endEdge =
      (entryEdge s.cur { s with inputs := j :: l }).endEdge) :
    step { s with inputs := i :: l } = step { s with inputs := j :: l } := by
  obtain ⟨hr, hs⟩ | ⟨hr, r, hl, hs⟩ | ⟨hr, hl, hf, hs⟩ | ⟨hr, hl, hf, hs⟩ := step_cases { s with inputs := i :: l }
  · rw [hs, step_of_rst (s := { s with inputs := j :: l }) (hrst.symm.trans hr)]; rfl
  · rw [hs, step_of_releaseRefusal (s := { s with inputs := j :: l }) (hrst.symm.trans hr) hl]
  · have hruns : State.Runs { s with inputs := j :: l } := ⟨hrst.symm.trans hr, hl⟩
    rw [hs, hruns.step_of_faulted hf]; rfl
  · have hruns : State.Runs { s with inputs := j :: l } := ⟨hrst.symm.trans hr, hl⟩
    rw [hs, hruns.step_of_not_faulted hf]
    exact congrArg (fun t : State => Host.Outcome.next t.release) hedge

/-- EMIT reads no input. -/
theorem emitEdge_withInputs (c : StateCode) (s : State) (l : List EdgeInput) :
    emitEdge c { s with inputs := l } = { emitEdge c s with inputs := l } := by
  unfold emitEdge
  obtain ⟨-, h⟩ | ⟨e, -, h⟩ := outputsFor_cases s.params.table c
  · simp only [h]; rfl
  · simp only [h]
    split <;> rfl

/-- HOLD reads of the inputs `tick` only. -/
theorem holdEdge_endEdge_congr_tick {s : State} {i j : EdgeInput} {l : List EdgeInput} (htick : i.tick = j.tick) :
    (holdEdge { s with inputs := i :: l }).endEdge = (holdEdge { s with inputs := j :: l }).endEdge := by
  by_cases hc : s.cnt = 0#16
  · simp only [holdEdge, hc]; rfl
  · cases ht : j.tick <;> simp only [holdEdge, hc, State.ports, htick, ht] <;> rfl

/-- Only SAMPLE reads the sensor (rules R24, R56, R104). -/
theorem entryEdge_endEdge_congr_tick {c : StateCode} {s : State} {i j : EdgeInput} {l : List EdgeInput}
    (htick : i.tick = j.tick) (hph : s.ph ≠ phaseSample) :
    (entryEdge c { s with inputs := i :: l }).endEdge = (entryEdge c { s with inputs := j :: l }).endEdge := by
  obtain h | h | h | h := phase_cases s.ph
  · have he (m : List EdgeInput) := entryEdge_emit (c := c) (s := { s with inputs := m }) h
    rw [he, he, emitEdge_withInputs c s (i :: l), emitEdge_withInputs c s (j :: l)]; rfl
  · have he (m : List EdgeInput) := entryEdge_hold (c := c) (s := { s with inputs := m }) h
    rw [he, he, holdEdge_endEdge_congr_tick htick]
  · exact absurd h hph
  · have he (m : List EdgeInput) := entryEdge_illegal (c := c) (s := { s with inputs := m }) h
    rw [he, he]; rfl

/-! The output ports. -/

theorem State.trafficOut_of_not_faulted {s : State} (h : s.flt = 0b00#2) : s.trafficOut = s.trafficQ := if_pos h
theorem State.pedOut_of_not_faulted {s : State} (h : s.flt = 0b00#2) : s.pedOut = s.pedQ := if_pos h
theorem State.trafficOut_of_faulted {s : State} (h : s.flt ≠ 0b00#2) : s.trafficOut = allRed := if_neg h
theorem State.pedOut_of_faulted {s : State} (h : s.flt ≠ 0b00#2) : s.pedOut = dontWalk := if_neg h

/-! The statements. -/

/-- Settles O39: of the ways a step can go, only reset and the entry's edge write `cur`, the latter at SAMPLE only. -/
theorem curHasOneWriter : Obligations.CurHasOneWriter := by
  intro s t h hcur
  obtain ⟨hr, -⟩ | ⟨-, r, -, hs⟩ | ⟨-, -, -, hs⟩ | ⟨-, -, hf, hs⟩ := step_cases s
  · exact .inl hr
  · rw [hs] at h; cases h
  · rw [hs] at h; cases h
    exact absurd rfl hcur
  · rw [hs] at h; cases h
    exact .inr ⟨hf, (entryEdge_cur_cases s.cur s).resolve_left hcur⟩

/-- Settles O41: every edge's operation writes registers only, and `step` adds the end of the edge. -/
theorem configurationNeverChanges : Obligations.ConfigurationNeverChanges :=
  ⟨exec_sameConfig, fun _ _ => step_params⟩

/-- Settles O42: apart from `rst` the next input reaches a step through the entry's edge, which at EMIT and HOLD reads
`tick` at most. -/
theorem sensorReadOnlyAtSample : Obligations.SensorReadOnlyAtSample :=
  fun _ _ _ _ hrst htick hph => step_congr_next_input hrst (entryEdge_endEdge_congr_tick htick hph)

/-- Settles O1: the model starts in the state that the reset action leads to. -/
theorem postResetRegisters : Obligations.PostResetRegisters :=
  ⟨⟨rfl, rfl, rfl, rfl, rfl, rfl⟩, fun _ hrst => ⟨_, step_of_rst hrst, rfl, rfl, rfl, rfl, rfl, rfl⟩⟩

/-- Settles O2: a reset edge is the reset action and the end of the edge. -/
theorem resetEdgeLoadsResetValues : Obligations.ResetEdgeLoadsResetValues :=
  fun _ => step_of_rst

/-- Settles O32: the step runs `cur`'s entry, and the word that `cur` decodes to executes the same entry. -/
theorem stepRunsDecodedStateWord : Obligations.StepRunsDecodedStateWord := by
  intro s i hruns hflt hdecode
  rw [hruns.step_of_not_faulted hflt, exec_of_decodeState hdecode]
  rfl

/-- Settles O38: the port equations of rules R25 and R26, and the lamp bits of the don't-walk word. -/
theorem portsUnderFault : Obligations.PortsUnderFault := fun _ =>
  ⟨fun h => ⟨State.trafficOut_of_not_faulted h, State.pedOut_of_not_faulted h⟩,
    fun h => ⟨State.trafficOut_of_faulted h, State.pedOut_of_faulted h⟩, by decide⟩

end Sys2Proof.Machine
end

section
/-! Encodings: the code words, the packed ROM word, and the sensor index. -/

namespace Sys2Proof

/-! The code tables of rules R71 and R73. -/

/-- Every instruction decodes from its own word (rules R71, R73, R83). -/
theorem decode_encode (i : Instr) : decode (encode i) = .ok i := by
  cases i <;> rfl

/-- The decoder of `ph` accepts only the encoder's words (rules R73, R83). -/
theorem encode_of_decodePhase {p : PhaseCode} {i : Instr} (h : decodePhase p = .ok i) : encode i = .phase2 p := by
  unfold decodePhase at h
  split at h
  all_goals cases h
  all_goals
    rename_i hp
    exact congrArg CodeWord.phase2 (BitVec.eq_of_toNat_eq hp.symm)

theorem encode_of_decode {w : CodeWord} {i : Instr} (h : decode w = .ok i) : encode i = w := by
  cases w with
  | state4 c => exact Machine.encode_of_decodeState h
  | phase2 p => exact encode_of_decodePhase h

theorem decodeState_of_gt {c : StateCode} (h : 8 < c.toNat) : decodeState c = .error (.illegalStateCode c) := by
  unfold decodeState
  split
  case h_10 => rfl
  all_goals omega

/-! The packed entry (rule R80). A slice of a concatenation lies in the operand that its position falls into. -/

open BitVec

theorem packEntry_traffic (e : RomEntry) : (packEntry e).extractLsb' 50 6 = e.traffic := by
  simp (disch := omega) [packEntry, extractLsb'_append_eq_of_le (w := 4), extractLsb'_append_eq_of_le (w := 16),
    extractLsb'_append_eq_of_le (w := 2)]

theorem packEntry_ped (e : RomEntry) : (packEntry e).extractLsb' 48 2 = e.ped := by
  simp (disch := omega) [packEntry, extractLsb'_append_eq_of_le (w := 4), extractLsb'_append_eq_of_le (w := 16),
    extractLsb'_append_eq_of_add_le (w := 2)]

theorem packEntry_hold (e : RomEntry) : (packEntry e).extractLsb' 32 16 = e.hold := by
  simp (disch := omega) [packEntry, extractLsb'_append_eq_of_le (w := 4), extractLsb'_append_eq_of_add_le (w := 16)]

theorem nextField_packEntry (e : RomEntry) {i : Nat} (h : i < 8) : nextField (packEntry e) i = e.next[i] := by
  unfold nextField packEntry
  interval_cases i
  all_goals simp (disch := omega) [extractLsb'_append_eq_of_le (w := 4), extractLsb'_append_eq_of_add_le (w := 4)]

theorem unpackEntry_next (w : RomWord) {i : Nat} (h : i < 8) : (unpackEntry w).next[i] = nextField w i := by
  unfold unpackEntry
  interval_cases i
  all_goals rfl

theorem unpackEntry_packEntry (e : RomEntry) : unpackEntry (packEntry e) = e := by
  have hnext : (unpackEntry (packEntry e)).next = e.next :=
    Vector.ext fun i hi => (unpackEntry_next _ hi).trans (nextField_packEntry e hi)
  calc unpackEntry (packEntry e)
      = ⟨(packEntry e).extractLsb' 50 6, (packEntry e).extractLsb' 48 2, (packEntry e).extractLsb' 32 16,
          (unpackEntry (packEntry e)).next⟩ := rfl
    _ = e := by rw [packEntry_traffic, packEntry_ped, packEntry_hold, hnext]

/-- The eleven slices of `unpackEntry` are adjacent, so joining them again gives the whole word. -/
theorem packEntry_unpackEntry (w : RomWord) : packEntry (unpackEntry w) = w := by
  simp (disch := omega) [packEntry, unpackEntry, nextField,
    extractLsb'_append_extractLsb'_eq_extractLsb' (w := 56) (x := w)]

end Sys2Proof

namespace Sys2Proof.Machine

/-! The sensor index (rules R74, R75). -/

/-- A port of at least three bits keeps the low three bits of the value on it. -/
theorem sense_toNat {s : State} (h : 3 ≤ s.params.sensorRawW) : s.sense.toNat = s.ports.sensorRaw % 8 := by
  have hdvd : 2 ^ 3 ∣ 2 ^ s.params.sensorRawW := Nat.pow_dvd_pow 2 h
  calc s.sense.toNat = s.ports.sensorRaw % 2 ^ s.params.sensorRawW % 2 ^ 3 := by
        simp [State.sense, maskSense, State.sensorRead]
    _ = s.ports.sensorRaw % 8 := Nat.mod_mod_of_dvd _ hdvd

theorem sense_toNat_eq_bits (x : Sense) :
    x.toNat = 4 * (senseP x).toNat + 2 * (senseN x).toNat + (senseE x).toNat := by
  revert x; decide

/-! The default TABLE (rules R113, R114). -/

theorem defaultTable_wf : wfTable defaultTable = true := by decide

theorem defaultParams_legal : paramsRefusal defaultParams = none :=
  (paramsRefusal_eq_none_iff defaultParams).2 ⟨defaultTable_wf, le_rfl, rfl⟩

/-! The statements. -/

/-- Settles O12: unpacking reads every field where packing has put it, and the fields cover the word. -/
theorem rom56RoundTrip : Obligations.Rom56RoundTrip :=
  ⟨unpackEntry_packEntry, packEntry_unpackEntry⟩

/-- Settles O11: one slice lemma per field, the successors by their index. -/
theorem rom56FieldPositions : Obligations.Rom56FieldPositions := fun e =>
  ⟨packEntry_traffic e, packEntry_ped e, packEntry_hold e, fun x => nextField_packEntry e x.isLt⟩

/-- Settles O14: the cut to the port's width does not reach the low three bits, and these are the named ones. -/
theorem senseIsMaskedToThreeBits : Obligations.SenseIsMaskedToThreeBits :=
  fun s hwidth => ⟨sense_toNat hwidth, sense_toNat_eq_bits s.sense⟩

/-- Settles O8: each written word is its instruction's encoding. -/
theorem writtenWordsDecode : Obligations.WrittenWordsDecode :=
  ⟨decode_encode .goNorthSouth, decode_encode .waitNorthSouth, decode_encode .goEastWest, decode_encode .waitEastWest,
    decode_encode .goPedestrian, decode_encode .walkOnPhase1, decode_encode .walkOffPhase1, decode_encode .walkOnPhase2,
    decode_encode .walkOffPhase2, decode_encode .emit, decode_encode .hold, decode_encode .sample⟩

/-- Settles O9, format by format. -/
theorem decodeAndEncodeAgree : Obligations.DecodeAndEncodeAgree :=
  ⟨decode_encode, fun _ _ => encode_of_decode⟩

/-- Settles O10: a code above 8 reaches the decoder's last row. -/
theorem illegalCodesAreRejected : Obligations.IllegalCodesAreRejected :=
  ⟨fun _ => decodeState_of_gt, rfl⟩

/-- Settles O13: the default TABLE is well-formed, so the default parameters are legal; the packing is run entry by
entry. -/
theorem defaultTablePackedWords : Obligations.DefaultTablePackedWords :=
  ⟨defaultTable_wf, State.reset.launched_iff.2 defaultParams_legal, rfl, by decide⟩

end Sys2Proof.Machine
end

section
/-! What a state word does with its entry, field by field, and the legality of the lamps. -/

namespace Sys2Proof.Machine

/-! An entry's edge, given the entry: one equation per outcome of `emitEdge_cases` and `sampleEdge_cases`. -/

theorem outputsFor_of_romRead {t : RomTable} {c : StateCode} {e : RomEntry} (h : romRead t c = some e) :
    outputsFor t c = .ok (e.traffic, e.ped, e.hold) := by
  simp [outputsFor, h]

theorem nextState_of_le {t : RomTable} {c : StateCode} {e : RomEntry} {x : Sense} (h : romRead t c = some e)
    (hle : (entryNext e x).toNat ≤ 8) : nextState t c x = .ok (entryNext e x) := by
  simp [nextState, h, Nat.not_lt.2 hle]

theorem nextState_of_gt {t : RomTable} {c : StateCode} {e : RomEntry} {x : Sense} (h : romRead t c = some e)
    (hgt : 8 < (entryNext e x).toNat) : nextState t c x = .error .illegalState := by
  simp [nextState, h, hgt]

section
variable {c : StateCode} {e : RomEntry} {s : State} (hread : romRead s.params.table c = some e)
include hread

theorem emitEdge_of_hold_ne_zero (h : e.hold ≠ 0#16) :
    emitEdge c s = ((s.lightWrite e.traffic e.ped).loadTimer e.hold).setPhase phaseHold := by
  simp [emitEdge, outputsFor_of_romRead hread, h]

theorem emitEdge_of_hold_eq_zero (h : e.hold = 0#16) : emitEdge c s = s.takeFault .zeroHold := by
  simp [emitEdge, outputsFor_of_romRead hread, h]

theorem sampleEdge_of_le (h : (entryNext e s.sense).toNat ≤ 8) :
    sampleEdge c s = (s.setCur (entryNext e s.sense)).setPhase phaseEmit := by
  simp [sampleEdge, nextState_of_le hread h]

theorem sampleEdge_of_gt (h : 8 < (entryNext e s.sense).toNat) : sampleEdge c s = s.takeFault .illegalState := by
  simp [sampleEdge, nextState_of_gt hread h]

end

/-- Settles O26: a decoded state word executes the entry's edge at its code, and each phase of that edge has its
equation. -/
theorem stateWordExecutesItsEntry : Obligations.StateWordExecutesItsEntry := by
  intro i c e s hdecode hread
  rw [exec_of_decodeState hdecode]
  refine ⟨fun hph hhold => ?_, fun hph hhold => ?_, fun hph => ?_, fun hph hle => ?_, fun hph hgt => ?_,
    fun hph => ?_⟩
  · rw [entryEdge_emit hph, emitEdge_of_hold_ne_zero hread hhold]; rfl
  · rw [entryEdge_emit hph, emitEdge_of_hold_eq_zero hread hhold]; rfl
  · rw [entryEdge_hold hph]; rfl
  · rw [entryEdge_sample hph, sampleEdge_of_le hread hle]; rfl
  · rw [entryEdge_sample hph, sampleEdge_of_gt hread hgt]; rfl
  · rw [entryEdge_illegal hph]; rfl

/-! Legal lamps (rules R77, R79, R113). -/

theorem mem_of_romRead {t : RomTable} {c : StateCode} {e : RomEntry} (h : romRead t c = some e) : e ∈ t.toList :=
  Vector.mem_toList_iff.2 (Vector.mem_of_getElem? h)

/-- Every entry of a well-formed table lights legal lamps. -/
theorem entry_lamps_legal {t : RomTable} (hwf : wfTable t = true) {c : StateCode} {e : RomEntry}
    (h : romRead t c = some e) : legalTraffic e.traffic = true ∧ legalPed e.ped = true := by
  simp only [wfTable, Bool.and_eq_true] at hwf
  obtain ⟨⟨⟨-, htraffic⟩, hped⟩, -⟩ := hwf
  exact ⟨List.all_eq_true.1 htraffic e (mem_of_romRead h), List.all_eq_true.1 hped e (mem_of_romRead h)⟩

theorem allRed_dontWalk_legal : legalTraffic allRed = true ∧ legalPed dontWalk = true := by decide

/-- The output registers hold the words of some entry of the table, or the reset words (rules R30, R31, R40). -/
theorem State.ShowsEntry.registers_cases {s : State} (h : s.ShowsEntry) :
    (s.trafficQ = allRed ∧ s.pedQ = dontWalk) ∨
    ∃ c e, romRead s.params.table c = some e ∧ s.trafficQ = e.traffic ∧ s.pedQ = e.ped := by
  obtain ⟨hcur, hemit⟩ := h
  by_cases hph : s.ph = phaseEmit
  · obtain hreset | ⟨c, e, -, hread, htraffic, hped, -⟩ := hemit hph
    · exact .inl hreset
    · exact .inr ⟨c, e, hread, htraffic, hped⟩
  · obtain ⟨e, hshown⟩ := hcur hph
    exact .inr ⟨s.cur, e, hshown⟩

/-- Settles O49: a fault shows the safe words, and otherwise the ports show an entry of a well-formed table or the reset
words. -/
theorem lampsAreLegal : Obligations.LampsAreLegal := by
  rintro s (⟨⟨hlaunched, hflt, -⟩, hshows⟩ | hflt)
  · obtain ⟨hwf, -⟩ := (paramsRefusal_eq_none_iff s.params).1 (s.launched_iff.1 hlaunched)
    unfold State.LampsLegal
    rw [State.trafficOut_of_not_faulted hflt, State.pedOut_of_not_faulted hflt]
    obtain ⟨htraffic, hped⟩ | ⟨c, e, hread, htraffic, hped⟩ := hshows.registers_cases
    · rw [htraffic, hped]; exact allRed_dontWalk_legal
    · rw [htraffic, hped]; exact entry_lamps_legal hwf hread
  · unfold State.LampsLegal
    rw [State.trafficOut_of_faulted hflt, State.pedOut_of_faulted hflt]
    exact allRed_dontWalk_legal

end Sys2Proof.Machine
end

section
/-! The listing of a TABLE (rule R86): the names, the words of a line, the numbers, and that reading undoes writing. -/

namespace Sys2Proof.Machine

/-! Names of states (rules R13, R71, R87). -/

theorem identCode_of_mem_stateNames :
    ∀ n ∈ stateNames, identCode n.full.toList = some n.code ∧ identCode n.abbr.toList = some n.code := by
  decide

theorem identCode_eq_some_iff (w : List Char) (c : StateCode) :
    identCode w = some c ↔ ∃ n ∈ stateNames, n.code = c ∧ (w = n.full.toList ∨ w = n.abbr.toList) := by
  constructor
  · intro h
    obtain ⟨n, hfind, hcode⟩ := Option.map_eq_some_iff.1 h
    have hname := List.find?_some hfind
    simp only [Bool.or_eq_true, beq_iff_eq] at hname
    exact ⟨n, List.mem_of_find?_eq_some hfind, hcode, hname.imp Eq.symm Eq.symm⟩
  · rintro ⟨n, hn, rfl, rfl | rfl⟩
    · exact (identCode_of_mem_stateNames n hn).1
    · exact (identCode_of_mem_stateNames n hn).2

/-- The text of a code: its full name. A code that names no state has the empty text. -/
def codeName (c : StateCode) : List Char := (codeIdent c).getD []

theorem codeIdent_of_le {c : StateCode} (h : c.toNat ≤ 8) : codeIdent c = some (codeName c) := by
  revert c; decide

theorem codeName_mem_stateNames {c : StateCode} (h : c.toNat ≤ 8) :
    ∃ n ∈ stateNames, n.code = c ∧ codeName c = n.full.toList := by
  obtain ⟨n, hfind, hname⟩ := Option.map_eq_some_iff.1 (codeIdent_of_le h)
  exact ⟨n, List.mem_of_find?_eq_some hfind, by simpa using List.find?_some hfind, hname.symm⟩

theorem identCode_codeName {c : StateCode} (h : c.toNat ≤ 8) : identCode (codeName c) = some c := by
  obtain ⟨n, hn, hcode, hname⟩ := codeName_mem_stateNames h
  exact (identCode_eq_some_iff _ c).2 ⟨n, hn, hcode, .inl hname⟩

/-- Settles O16: the written rows are those of `stateNames`, each of which is found by its two names. -/
theorem aliasIsNotAccepted : Obligations.AliasIsNotAccepted := by
  refine ⟨by decide, fun w c => (identCode_eq_some_iff w c).trans ?_⟩
  change _ ↔ ∃ row ∈ stateNames.map fun n => (n.full, n.abbr, n.code),
    row.2.2 = c ∧ (w = row.1.toList ∨ w = row.2.1.toList)
  simp only [List.mem_map, exists_exists_and_eq_and]

/-! Words of a line. -/

/-- A character that belongs to a word. -/
def isPlain (a : Char) : Bool := a != ' ' && !isPunct a

/-- A non-empty text without spaces and marks is one word. -/
def IsWord (w : List Char) : Prop := w ≠ [] ∧ ∀ a ∈ w, isPlain a = true

theorem wordsFrom_plain {v : List Char} (hv : ∀ a ∈ v, isPlain a = true) (w rest : List Char) :
    wordsFrom w (v ++ rest) = wordsFrom (w ++ v) rest := by
  induction v generalizing w with
  | nil => simp
  | cons a v ih =>
    obtain ⟨ha, hv⟩ := List.forall_mem_cons.1 hv
    simp only [isPlain, Bool.and_eq_true, bne_iff_ne, ne_eq, Bool.not_eq_true'] at ha
    simp [wordsFrom, ha, ih hv]

theorem flushWord_of_isWord {v : List Char} (hv : IsWord v) : flushWord v = [v] := by
  simp [flushWord, hv.1]

theorem wordsOf_of_isWord {v : List Char} (hv : IsWord v) : wordsOf v = [v] := by
  simpa [wordsOf, wordsFrom, flushWord_of_isWord hv] using wordsFrom_plain hv.2 [] []

theorem wordsOf_isWord_punct {v : List Char} (hv : IsWord v) {a : Char} (ha : isPunct a = true) :
    wordsOf (v ++ [a]) = [v, [a]] := by
  have hspace : a ≠ ' ' := by rintro rfl; cases ha
  rw [wordsOf, wordsFrom_plain hv.2]
  simp [wordsFrom, ha, hspace, flushWord, hv.1]

/-- A space ends whatever word was begun before it. -/
theorem wordsFrom_append_space (w u rest : List Char) :
    wordsFrom w (u ++ ' ' :: rest) = wordsFrom w u ++ wordsOf rest := by
  induction u generalizing w with
  | nil => simp [wordsFrom, wordsOf]
  | cons a u ih =>
    simp only [List.cons_append, wordsFrom]
    split
    · simp [ih]
    · split <;> simp [ih]

theorem wordsOf_append_space (u rest : List Char) : wordsOf (u ++ ' ' :: rest) = wordsOf u ++ wordsOf rest :=
  wordsFrom_append_space [] u rest

/-- Words with a space after each. -/
def spaced (ws : List (List Char)) : List Char := ws.flatMap (· ++ [' '])

theorem wordsOf_spaced {ws : List (List Char)} (h : ∀ w ∈ ws, wordsOf w = [w]) (rest : List Char) :
    wordsOf (spaced ws ++ rest) = ws ++ wordsOf rest := by
  induction ws with
  | nil => rfl
  | cons w ws ih =>
    obtain ⟨hw, hws⟩ := List.forall_mem_cons.1 h
    calc wordsOf (spaced (w :: ws) ++ rest)
        = wordsOf (w ++ ' ' :: (spaced ws ++ rest)) := by simp [spaced]
      _ = w :: (ws ++ wordsOf rest) := by rw [wordsOf_append_space, hw, ih hws, List.singleton_append]

theorem codeName_isWord {c : StateCode} (h : c.toNat ≤ 8) : IsWord (codeName c) := by
  have hne : ∀ n ∈ stateNames, n.full.toList ≠ [] := by decide
  have hplain : ∀ n ∈ stateNames, n.full.toList.all isPlain = true := by decide
  obtain ⟨n, hn, -, hname⟩ := codeName_mem_stateNames h
  rw [hname]
  exact ⟨hne n hn, List.all_eq_true.1 (hplain n hn)⟩

/-! Decimal numbers. -/

theorem digitVal_digit : ∀ d < 10, digitVal 10 (Char.ofNat (48 + d)) = some d := by decide

theorem isPlain_digit : ∀ d < 10, isPlain (Char.ofNat (48 + d)) = true := by decide

/-- The digits written before `acc` are read first, and their value is the number. -/
theorem digitsFrom_decimalFrom {fuel n : Nat} (h : n < 10 ^ fuel) (acc : List Char) :
    digitsFrom 10 0 (decimalFrom fuel n acc) = digitsFrom 10 n acc := by
  induction fuel generalizing n acc with
  | zero =>
    obtain rfl : n = 0 := by simpa using h
    rfl
  | succ fuel ih =>
    have hdigit := digitVal_digit (n % 10) (Nat.mod_lt _ (by decide))
    simp only [decimalFrom]
    split
    next hn =>
      rw [Nat.mod_eq_of_lt hn] at hdigit ⊢
      simp [digitsFrom, hdigit]
    next =>
      rw [ih (by omega)]
      simp [digitsFrom, hdigit, Nat.div_add_mod]

theorem isWord_digit_cons (n : Nat) {acc : List Char} (hacc : ∀ a ∈ acc, isPlain a = true) :
    IsWord (Char.ofNat (48 + n % 10) :: acc) :=
  ⟨List.cons_ne_nil _ _, List.forall_mem_cons.2 ⟨isPlain_digit _ (Nat.mod_lt _ (by decide)), hacc⟩⟩

theorem decimalFrom_isWord {acc : List Char} (hacc : ∀ a ∈ acc, isPlain a = true) (fuel n : Nat) :
    IsWord (decimalFrom (fuel + 1) n acc) := by
  induction fuel generalizing n acc with
  | zero => simpa [decimalFrom] using isWord_digit_cons n hacc
  | succ fuel ih =>
    rw [decimalFrom]
    split
    · exact isWord_digit_cons n hacc
    · exact ih (isWord_digit_cons n hacc).2 (n / 10)

theorem showDecimal_isWord (n : Nat) : IsWord (showDecimal n) := decimalFrom_isWord (by simp) 4 n

theorem parseDecimal_showDecimal {n : Nat} (h : n < 100000) : parseDecimal (showDecimal n) = some n := by
  simp only [parseDecimal, numberOf, List.isEmpty_iff, (showDecimal_isWord n).1, if_false]
  exact digitsFrom_decimalFrom h []

theorem parseHold_showDecimal (h : Ticks) : parseHold (showDecimal h.toNat) = some h := by
  have hlt : h.toNat < 65536 := h.isLt
  simp [parseHold, parseDecimal_showDecimal (n := h.toNat) (by omega), hlt]

/-! Binary numbers. -/

/-- Reading `n` binary digits appends them to the number read before. -/
theorem digitsFrom_testBits (n x acc : Nat) :
    digitsFrom 2 acc ((List.range n).map fun i => if x.testBit (n - 1 - i) then '1' else '0') =
      some (acc * 2 ^ n + x % 2 ^ n) := by
  induction n generalizing acc with
  | zero => simp [digitsFrom, Nat.mod_one]
  | succ n ih =>
    have hdigit : digitVal 2 (if x.testBit n then '1' else '0') = some (x.testBit n).toNat := by
      cases x.testBit n <;> rfl
    rw [List.range_succ_eq_map, List.map_cons, List.map_map, digitsFrom]
    simp only [Nat.sub_sub, Nat.add_comm 1] at ih
    simp only [Function.comp_def, Nat.add_sub_cancel, Nat.sub_zero, hdigit, Option.bind_some, ih]
    rw [Nat.mod_pow_succ, Nat.toNat_testBit]
    congr 1
    ring

theorem showBinary_isWord {n : Nat} (v : BitVec n) : IsWord (showBinary v) := by
  refine ⟨List.cons_ne_nil _ _, ?_⟩
  have hbit (b : Bool) : isPlain (if b = true then '1' else '0') = true := by cases b <;> rfl
  simpa [showBinary, hbit] using (by decide : isPlain '0' = true ∧ isPlain 'b' = true)

theorem parseBinary_showBinary {n : Nat} (hn : 0 < n) (v : BitVec n) : parseBinary n (showBinary v) = some v := by
  have hdigits := digitsFrom_testBits n v.toNat 0
  simp only [BitVec.testBit_toNat, Nat.zero_mul, Nat.zero_add, Nat.mod_eq_of_lt v.isLt] at hdigits
  simp [parseBinary, showBinary, numberOf, hn.ne', hdigits]

/-! Table lines. -/

/-- The words of the successors' text: their names, with a comma between two. -/
theorem showIdents_words {cs : List StateCode} (hne : cs ≠ []) (hcs : ∀ c ∈ cs, c.toNat ≤ 8) :
    ∃ text, showIdents cs = some text ∧
      wordsOf (text ++ [']']) = (cs.map codeName).intersperse [','] ++ [[']']] := by
  match cs with
  | [c] =>
    have hc := hcs c List.mem_cons_self
    exact ⟨codeName c, codeIdent_of_le hc, wordsOf_isWord_punct (codeName_isWord hc) rfl⟩
  | c :: d :: cs =>
    obtain ⟨hc, hds⟩ := List.forall_mem_cons.1 hcs
    obtain ⟨text, hshow, hwords⟩ := showIdents_words (List.cons_ne_nil d cs) hds
    refine ⟨codeName c ++ ", ".toList ++ text, by simp [showIdents, codeIdent_of_le hc, hshow], ?_⟩
    have hsplit : codeName c ++ ", ".toList ++ text ++ [']'] = (codeName c ++ [',']) ++ ' ' :: (text ++ [']']) := by
      simp
    rw [hsplit, wordsOf_append_space, wordsOf_isWord_punct (codeName_isWord hc) rfl, hwords]
    simp

theorem parseNexts_names {next : Vector StateCode 8} (h : ∀ c ∈ next.toList, c.toNat ≤ 8) :
    parseNexts (['['] :: ((next.toList.map codeName).intersperse [','] ++ [[']']])) = some next := by
  obtain ⟨⟨cs⟩, hlen⟩ := next
  match cs, hlen with
  | [c0, c1, c2, c3, c4, c5, c6, c7], _ =>
    simp only [Vector.toList_mk, List.forall_mem_cons] at h
    obtain ⟨h0, h1, h2, h3, h4, h5, h6, h7, -⟩ := h
    simp [parseNexts, identCode_codeName h0, identCode_codeName h1, identCode_codeName h2, identCode_codeName h3,
      identCode_codeName h4, identCode_codeName h5, identCode_codeName h6, identCode_codeName h7]

/-- The words of a table line before the list of successors. -/
def entryWords (c : StateCode) (e : RomEntry) : List (List Char) :=
  ["state".toList, codeName c, ['='], showDecimal c.toNat, [':'], "traffic".toList, showBinary e.traffic,
    "ped".toList, showBinary e.ped, "hold".toList, showDecimal e.hold.toNat, "next".toList]

theorem entryWords_separate {c : StateCode} (hc : c.toNat ≤ 8) (e : RomEntry) :
    ∀ w ∈ entryWords c e, wordsOf w = [w] := by
  simp only [entryWords, List.forall_mem_cons, wordsOf_of_isWord (codeName_isWord hc),
    wordsOf_of_isWord (showDecimal_isWord _), wordsOf_of_isWord (showBinary_isWord _)]
  decide

theorem showEntry_of_le {c : StateCode} (hc : c.toNat ≤ 8) {e : RomEntry} {nexts : List Char}
    (h : showIdents e.next.toList = some nexts) :
    showEntry c e = some (spaced (entryWords c e) ++ '[' :: (nexts ++ [']'])) := by
  simp [showEntry, codeIdent_of_le hc, h, spaced, entryWords]

theorem parseEntryWords_entryWords {c : StateCode} (hc : c.toNat ≤ 8) {e : RomEntry} {nexts : List (List Char)}
    (h : parseNexts nexts = some e.next) : parseEntryWords c (entryWords c e ++ nexts) = some e := by
  simp [parseEntryWords, entryWords, identCode_codeName hc, parseDecimal_showDecimal (n := c.toNat) (by omega),
    parseBinary_showBinary, parseHold_showDecimal, h]

/-- An entry without dangling successors has a line, and the line reads back as the entry. -/
theorem showEntry_parseEntry {c : StateCode} (hc : c.toNat ≤ 8) {e : RomEntry}
    (he : ∀ n ∈ e.next.toList, n.toNat ≤ 8) :
    ∃ line, showEntry c e = some line ∧ parseEntry c line = some e := by
  have hne : e.next.toList ≠ [] := List.ne_nil_of_length_pos (by simp)
  obtain ⟨nexts, hshow, hwords⟩ := showIdents_words hne he
  refine ⟨_, showEntry_of_le hc hshow, ?_⟩
  have hbracket : wordsOf ('[' :: (nexts ++ [']'])) = ['['] :: wordsOf (nexts ++ [']']) := rfl
  rw [parseEntry, wordsOf_spaced (entryWords_separate hc e), hbracket, hwords]
  exact parseEntryWords_entryWords hc (parseNexts_names he)

/-! The listing. -/

theorem noDangling_iff (t : RomTable) :
    noDangling t = true ↔ ∀ e ∈ t.toList, ∀ n ∈ e.next.toList, n.toNat ≤ 8 := by
  simp only [noDangling, List.all_eq_true, decide_eq_true_eq]

/-- Nine lines that each read as their entry read as the table. -/
theorem parseTable_ofFn {t : RomTable} {line : Fin 9 → List Char}
    (h : ∀ i : Fin 9, parseEntry (BitVec.ofNat 4 i) (line i) = some t[i]) : parseTable (List.ofFn line) = some t := by
  have hentries : #v[t[0], t[1], t[2], t[3], t[4], t[5], t[6], t[7], t[8]] = t :=
    Vector.ext fun i hi => by interval_cases i <;> rfl
  rw [← hentries]
  simp only [Fin.getElem_fin, Fin.forall_fin_succ, Fin.isValue, Fin.coe_ofNat_eq_mod, Nat.zero_mod,
    Fin.val_succ, zero_add, Fin.succ_zero_eq_one, Nat.reduceAdd, Fin.succ_one_eq_two, Fin.reduceSucc,
    Fin.val_eq_zero, IsEmpty.forall_iff, and_true] at h
  simp [parseTable, List.ofFn_succ, h]

/-- Settles O15: entry by entry a line is written and reads back. -/
theorem listingRoundTrip : Obligations.ListingRoundTrip := by
  intro t hdangling
  have hlines (i : Fin 9) : ∃ line, showEntry (BitVec.ofNat 4 i) t[i] = some line ∧
      parseEntry (BitVec.ofNat 4 i) line = some t[i] :=
    showEntry_parseEntry (by simp; omega) ((noDangling_iff t).1 hdangling _ (by simp))
  choose line hshow hparse using hlines
  refine ⟨List.ofFn line, List.length_ofFn, fun c hc => ?_, parseTable_ofFn hparse⟩
  have hline := hshow ⟨c.toNat, Nat.lt_succ_of_le hc⟩
  rw [romRead_some_of_le t hc, Option.bind_some, List.getElem?_ofFn, dif_pos (Nat.lt_succ_of_le hc), ← hline]
  simp

end Sys2Proof.Machine
end

section
/-! The checks of a TABLE read as statements about its entries and successors (rules R105 to R113). -/

namespace Sys2Proof.Machine

/-! The lists that the checks run through. -/

theorem mem_stateCodes_iff (c : StateCode) : c ∈ stateCodes ↔ c.toNat ≤ 8 := by
  revert c; decide

theorem mem_senses (x : Sense) : x ∈ senses := by
  revert x; decide

theorem mem_pedSenses_iff (x : Sense) : x ∈ pedSenses ↔ senseP x = true := by
  revert x; decide

theorem toNat_le_of_mem_trafficCodes {c : StateCode} (h : c ∈ trafficCodes) : c.toNat ≤ 8 := by
  revert c; decide

theorem allCells_iff (f : StateCode → Sense → Bool) :
    allCells f = true ↔ ∀ c : StateCode, c.toNat ≤ 8 → ∀ x, f c x = true := by
  simp only [allCells, List.all_eq_true, mem_stateCodes_iff, mem_senses, true_imp_iff]

/-! Successors. -/

theorem toNat_le_of_nextState {t : RomTable} {c d : StateCode} {x : Sense} (h : nextState t c x = .ok d) :
    c.toNat ≤ 8 ∧ d.toNat ≤ 8 := by
  obtain ⟨-, hn⟩ | ⟨e, -, -, hn⟩ | ⟨e, hread, hle, hn⟩ := nextState_cases t c x
  · rw [hn] at h; cases h
  · rw [hn] at h; cases h
  · rw [hn] at h; cases h
    exact ⟨le_of_romRead hread, hle⟩

theorem successor?_eq_some_iff {t : RomTable} {c d : StateCode} {x : Sense} :
    successor? t c x = some d ↔ nextState t c x = .ok d := by
  unfold successor?
  cases nextState t c x with
  | ok n => simp
  | error f => simp

/-- Rule R106: a total table has a successor in every cell. -/
theorem exists_nextState {t : RomTable} (h : isTotal t = true) {c : StateCode} (hc : c.toNat ≤ 8) (x : Sense) :
    ∃ d, nextState t c x = .ok d := by
  obtain ⟨d, hd⟩ := Option.isSome_iff_exists.1 ((allCells_iff _).1 h c hc x)
  exact ⟨d, successor?_eq_some_iff.1 hd⟩

theorem everyNext_nextState {t : RomTable} {c n : StateCode} {x : Sense} {p : StateCode → Bool}
    (h : everyNext t c p = true) (hn : nextState t c x = .ok n) : p n = true := by
  have hx := List.all_eq_true.1 h x (mem_senses x)
  rwa [successor?_eq_some_iff.2 hn, Option.any_some] at hx

/-- The clauses of rule R113. -/
theorem wfTable_iff (t : RomTable) :
    wfTable t = true ↔ noDangling t = true ∧ isTotal t = true ∧ allReachable t = true ∧ pedestrianLive t = true ∧
      noBothGreens t = true ∧ noGreenToGreen t = true ∧ blinkInvariant t = true ∧ positiveHolds t = true ∧
      legalTrafficWords t = true ∧ legalPedWords t = true ∧ waitsAdvance t = true := by
  simp only [wfTable, Bool.and_eq_true, and_assoc]

theorem State.Sound.table_wf {s : State} (h : s.Sound) : wfTable s.params.table = true := by
  obtain ⟨hlaunched, -⟩ := h
  exact ((paramsRefusal_eq_none_iff s.params).1 (s.launched_iff.1 hlaunched)).1

theorem State.Sound.not_faulted {s : State} (h : s.Sound) : s.flt = 0b00#2 := by
  obtain ⟨-, hflt, -⟩ := h
  exact hflt

theorem sampleEdge_of_nextState {c n : StateCode} {s : State} (h : nextState s.params.table c s.sense = .ok n) :
    sampleEdge c s = (s.setCur n).setPhase phaseEmit := by
  simp [sampleEdge, h]

/-- Settles O60: a well-formed table is total, so the edge loads a successor, of which the two policy clauses speak. -/
theorem blinkAndWaitStatesAdvance : Obligations.BlinkAndWaitStatesAdvance := by
  intro s hwf hruns hflt hph hcur
  obtain ⟨-, htotal, -, -, -, -, hblink, -, -, -, hwaits⟩ := (wfTable_iff _).1 hwf
  simp only [blinkInvariant, waitsAdvance, Bool.and_eq_true] at hblink hwaits
  obtain ⟨⟨⟨hon1, hoff1⟩, hon2⟩, hoff2⟩ := hblink
  obtain ⟨hwaitNS, hwaitEW⟩ := hwaits
  obtain ⟨n, hn⟩ := exists_nextState htotal hcur s.sense
  refine ⟨((s.setCur n).setPhase phaseEmit).release.endEdge, ?_, hflt, rfl, fun hc => ?_, fun hc => ?_, fun hc => ?_,
    fun hc => ?_, ?_⟩
  · rw [hruns.step_of_not_faulted hflt, entryEdge_sample hph, sampleEdge_of_nextState hn]
  · simpa using everyNext_nextState hon1 (hc ▸ hn)
  · simpa using everyNext_nextState hoff1 (hc ▸ hn)
  · simpa using everyNext_nextState hon2 (hc ▸ hn)
  · simpa using everyNext_nextState hoff2 (hc ▸ hn)
  · rintro (hc | hc)
    · simpa [hc] using everyNext_nextState hwaitNS (hc ▸ hn)
    · simpa [hc] using everyNext_nextState hwaitEW (hc ▸ hn)

end Sys2Proof.Machine
end

section
/-! What the output registers show from edge to edge (rules R30, R31, R104), and that no green follows the other
direction's green (rule R110). -/

namespace Sys2Proof.Machine

/-! The Moore property is kept by every edge, also of a faulted controller: a fault writes none of the fields it names. -/

theorem emitEdge_showsEntry {s : State} (h : s.ShowsEntry) : (emitEdge s.cur s).ShowsEntry := by
  obtain ⟨-, he⟩ | ⟨e, hread, ⟨-, he⟩ | ⟨-, he⟩⟩ := emitEdge_cases s.cur s
  · rw [he]; exact h
  · rw [he]; exact h
  · rw [he]
    exact ⟨fun _ => ⟨e, hread, rfl, rfl⟩, fun hph => absurd hph (by decide : phaseHold ≠ phaseEmit)⟩

theorem holdEdge_showsEntry {s : State} (h : s.ShowsEntry) (hph : s.ph = phaseHold) :
    (holdEdge s).ShowsEntry := by
  obtain ⟨-, he⟩ | ⟨-, -, he⟩ | ⟨-, -, he⟩ := holdEdge_cases s
  · rw [he]; exact h
  · have hcount : s.countTick.ph ≠ phaseEmit := by
      rw [State.countTick_ph, hph]
      split <;> decide
    rw [he]
    exact ⟨fun _ => h.1 (by rw [hph]; decide), fun hemit => absurd hemit hcount⟩
  · rw [he]; exact h

theorem sampleEdge_showsEntry {s : State} (h : s.ShowsEntry) (hph : s.ph = phaseSample) :
    (sampleEdge s.cur s).ShowsEntry := by
  obtain ⟨-, he⟩ | ⟨n, hn, he⟩ := sampleEdge_cases s.cur s
  · rw [he]; exact h
  · obtain ⟨e, hread, htraffic, hped⟩ := h.1 (by rw [hph]; decide)
    rw [he]
    exact ⟨fun hne => absurd rfl hne, fun _ => .inr ⟨s.cur, e, s.sense, hread, htraffic, hped, hn⟩⟩

theorem entryEdge_showsEntry {s : State} (h : s.ShowsEntry) : (entryEdge s.cur s).ShowsEntry := by
  obtain hph | hph | hph | hph := phase_cases s.ph
  · rw [entryEdge_emit hph]; exact emitEdge_showsEntry h
  · rw [entryEdge_hold hph]; exact holdEdge_showsEntry h hph
  · rw [entryEdge_sample hph]; exact sampleEdge_showsEntry h hph
  · rw [entryEdge_illegal hph]; exact h

theorem step_showsEntry {s t : State} (h : s.ShowsEntry) (hstep : step s = .next t) : t.ShowsEntry := by
  obtain ⟨-, hs⟩ | ⟨-, r, -, hs⟩ | ⟨-, -, -, hs⟩ | ⟨-, -, -, hs⟩ := step_cases s
  all_goals rw [hs] at hstep; cases hstep
  · exact ⟨fun hne => absurd rfl hne, fun _ => .inl ⟨rfl, rfl⟩⟩
  · exact h
  · exact entryEdge_showsEntry h

/-- Settles O48: the invariant needs no other, since each edge either writes the words of `cur`'s entry or keeps them. -/
theorem stepKeepsShowsEntry : Obligations.StepKeepsShowsEntry :=
  fun _ _ _ hshows hstep => step_showsEntry hshows hstep

/-! Greens. -/

theorem noCrossGreen_allRed_left (x : TrafficWord) : noCrossGreen allRed x = true := by
  revert x; decide

theorem noCrossGreen_allRed_right (x : TrafficWord) : noCrossGreen x allRed = true := by
  revert x; decide

/-- A word that is legal shows no two greens, so it may stay. -/
theorem noCrossGreen_self_of_legal {x : TrafficWord} (h : legalTraffic x = true) : noCrossGreen x x = true := by
  revert x; decide

/-- Rule R110 for an entry and its successor's entry. -/
theorem noCrossGreen_of_nextState {t : RomTable} (h : noGreenToGreen t = true) {c d : StateCode} {x : Sense}
    {e f : RomEntry} (he : romRead t c = some e) (hf : romRead t d = some f) (hn : nextState t c x = .ok d) :
    noCrossGreen e.traffic f.traffic = true := by
  have hcell := (allCells_iff _).1 h c (le_of_romRead he) x
  simpa [trafficOf?, he, hf, successor?_eq_some_iff.2 hn] using hcell

@[simp] theorem holdEdge_trafficQ (s : State) : (holdEdge s).trafficQ = s.trafficQ := by
  obtain ⟨-, h⟩ | ⟨-, -, h⟩ | ⟨-, -, h⟩ := holdEdge_cases s
  all_goals simp [h]

@[simp] theorem sampleEdge_trafficQ (c : StateCode) (s : State) : (sampleEdge c s).trafficQ = s.trafficQ := by
  obtain ⟨-, h⟩ | ⟨n, -, h⟩ := sampleEdge_cases c s
  all_goals simp [h]

/-- An entry's edge keeps `traffic_q`, or it is an EMIT edge and loads the entry's word (rules R30, R162). -/
theorem entryEdge_trafficQ_cases (c : StateCode) (s : State) :
    (entryEdge c s).trafficQ = s.trafficQ ∨
    (s.ph = phaseEmit ∧ ∃ e, romRead s.params.table c = some e ∧ (entryEdge c s).trafficQ = e.traffic) := by
  obtain hph | hph | hph | hph := phase_cases s.ph
  · rw [entryEdge_emit hph]
    obtain ⟨-, he⟩ | ⟨e, hread, ⟨-, he⟩ | ⟨-, he⟩⟩ := emitEdge_cases c s
    · exact .inl (by rw [he]; rfl)
    · exact .inl (by rw [he]; rfl)
    · exact .inr ⟨hph, e, hread, by rw [he]; rfl⟩
  · exact .inl (by rw [entryEdge_hold hph, holdEdge_trafficQ])
  · exact .inl (by rw [entryEdge_sample hph, sampleEdge_trafficQ])
  · exact .inl (by rw [entryEdge_illegal hph]; rfl)

/-- The edge of `cur`'s entry: `traffic_q` keeps its legal word, or goes on from the reset word or from an entry to its
successor's. -/
theorem entryEdge_noCrossGreen {s : State} (hsound : s.Sound) (hshows : s.ShowsEntry) :
    noCrossGreen s.trafficQ (entryEdge s.cur s).trafficQ = true := by
  obtain hkept | ⟨hph, f, hf, hloaded⟩ := entryEdge_trafficQ_cases s.cur s
  · obtain ⟨hlegal, -⟩ := lampsAreLegal s (.inl ⟨hsound, hshows⟩)
    rw [State.trafficOut_of_not_faulted hsound.not_faulted] at hlegal
    rw [hkept]
    exact noCrossGreen_self_of_legal hlegal
  · obtain ⟨-, -, -, -, -, hgreen, -⟩ := (wfTable_iff _).1 hsound.table_wf
    rw [hloaded]
    obtain ⟨hred, -⟩ | ⟨c, e, x, he, htraffic, -, hn⟩ := hshows.2 hph
    · rw [hred]; exact noCrossGreen_allRed_left _
    · rw [htraffic]; exact noCrossGreen_of_nextState hgreen he hf hn

/-- Settles O50: after a reset edge or in a fault all is red, and otherwise the ports are the registers. -/
theorem noGreenToGreenEdge : Obligations.NoGreenToGreenEdge := by
  intro s t hsound hshows hstep
  have hflt := hsound.not_faulted
  obtain ⟨-, hs⟩ | ⟨-, r, -, hs⟩ | ⟨-, -, hfault, -⟩ | ⟨-, -, -, hs⟩ := step_cases s
  · rw [hs] at hstep; cases hstep
    exact noCrossGreen_allRed_right _
  · rw [hs] at hstep; cases hstep
  · exact absurd hflt hfault
  · rw [hs] at hstep; cases hstep
    by_cases hfault : (entryEdge s.cur s).release.endEdge.flt = 0b00#2
    · rw [State.trafficOut_of_not_faulted hflt, State.trafficOut_of_not_faulted hfault]
      exact entryEdge_noCrossGreen hsound hshows
    · rw [State.trafficOut_of_faulted hfault]
      exact noCrossGreen_allRed_right _

end Sys2Proof.Machine
end

section
/-! Drive cycles as paths through the table: which codes they reach, and when they enter GoPedestrian (rules R107, R108). -/

namespace Sys2Proof.Machine

/-! Paths. -/

theorem drive_of_romRead {t : RomTable} {c : StateCode} {e : RomEntry} {x : Sense} (h : romRead t c = some e)
    (hle : (entryNext e x).toNat ≤ 8) : drive t c x = .ok ⟨e.traffic, e.ped, e.hold, entryNext e x⟩ := by
  simp [drive, outputsFor_of_romRead h, nextState_of_le h hle]

theorem driveTo_cons_of_drive {t : RomTable} {c : StateCode} {x : Sense} {d : DriveCycle} (h : drive t c x = .ok d)
    (xs : List Sense) : driveTo t c (x :: xs) = driveTo t d.next xs := by
  simp [driveTo, h]

theorem driveTicks_cons_of_drive {t : RomTable} {c : StateCode} {x : Sense} {d : DriveCycle}
    (h : drive t c x = .ok d) (xs : List Sense) :
    driveTicks t c (x :: xs) = (driveTicks t d.next xs).map (d.hold.toNat + ·) := by
  simp [driveTicks, h]

/-- A drive cycle is defined where the successor is, and leads to it. -/
theorem driveTo_cons (t : RomTable) (c : StateCode) (x : Sense) (xs : List Sense) :
    driveTo t c (x :: xs) = (successor? t c x).bind (driveTo t · xs) := by
  obtain ⟨hread, hn⟩ | ⟨e, hread, -, hn⟩ | ⟨e, hread, -, hn⟩ := nextState_cases t c x
  all_goals simp [driveTo, drive, outputsFor, successor?, hread, hn]

theorem driveTo_append (t : RomTable) (c : StateCode) (xs ys : List Sense) :
    driveTo t c (xs ++ ys) = (driveTo t c xs).bind (driveTo t · ys) := by
  induction xs generalizing c with
  | nil => rfl
  | cons x xs ih => simp only [List.cons_append, driveTo_cons, ih, Option.bind_assoc]

theorem driveTo_singleton (t : RomTable) (c : StateCode) (x : Sense) : driveTo t c [x] = successor? t c x := by
  rw [driveTo_cons]
  exact Option.bind_fun_some _

/-! Sets of codes that grow by one monotone rule. Each round adds one of the nine codes or is the last to add any, and the
first set has one already, so eight rounds give all. -/

/-- `S n` is what `n` rounds of the monotone rule `F` make of the one code `a`. -/
structure IsRounds (F : List StateCode → List StateCode) (a : StateCode) (S : ℕ → List StateCode) : Prop where
  init : S 0 = [a]
  next : ∀ n, S (n + 1) = F (S n)
  filters : ∀ l, ∃ p, F l = stateCodes.filter p
  mono : ∀ {l l' : List StateCode}, l ⊆ l' → F l ⊆ F l'
  keeps : a ∈ F [a]

theorem sublist_of_filter_subset {p q : StateCode → Bool} {l : List StateCode} (h : l.filter p ⊆ l.filter q) :
    (l.filter p).Sublist (l.filter q) := by
  have hpq : l.filter p = (l.filter q).filter p := by
    rw [List.filter_filter]
    refine List.filter_congr fun c hc => ?_
    cases hp : p c with
    | false => rfl
    | true => exact (List.mem_filter.1 (h (List.mem_filter.2 ⟨hc, hp⟩))).2.symm
  rw [hpq]
  exact List.filter_sublist

section
variable {F : List StateCode → List StateCode} {a : StateCode} {S : ℕ → List StateCode} (h : IsRounds F a S)
include h

theorem IsRounds.sublist_succ (n : ℕ) : (S n).Sublist (S (n + 1)) := by
  induction n with
  | zero =>
    rw [h.next, h.init]
    exact List.singleton_sublist.2 h.keeps
  | succ n ih =>
    have hsub : F (S n) ⊆ F (S (n + 1)) := h.mono ih.subset
    rw [h.next n, h.next (n + 1)]
    obtain ⟨p, hp⟩ := h.filters (S n)
    obtain ⟨q, hq⟩ := h.filters (S (n + 1))
    rw [hp, hq] at hsub ⊢
    exact sublist_of_filter_subset hsub

theorem IsRounds.sublist {m n : ℕ} (hmn : m ≤ n) : (S m).Sublist (S n) := by
  induction n, hmn using Nat.le_induction with
  | base => exact List.Sublist.refl _
  | succ n _ ih => exact ih.trans (h.sublist_succ n)

theorem IsRounds.length_le_nine (n : ℕ) : (S n).length ≤ 9 := by
  obtain ⟨p, hp⟩ := h.filters (S n)
  calc (S n).length ≤ (S (n + 1)).length := (h.sublist_succ n).length_le
    _ ≤ 9 := by rw [h.next, hp]; exact List.length_filter_le _ stateCodes

theorem IsRounds.eq_of_length_pred_eq {m n : ℕ} (hmn : m ≤ n) (heq : (S m).length - 1 = (S n).length - 1) :
    S m = S n := by
  have hpos : 1 ≤ (S m).length := by simpa [h.init] using (h.sublist (Nat.zero_le m)).length_le
  have hle := (h.sublist hmn).length_le
  exact (h.sublist hmn).eq_of_length (by omega)

theorem IsRounds.subset_eight (n : ℕ) : S n ⊆ S 8 := by
  have hgrows : Monotone fun m => (S m).length - 1 := fun _ _ hij =>
    Nat.sub_le_sub_right (h.sublist hij).length_le 1
  have hstable (m : ℕ) (hm : (S m).length - 1 = (S (m + 1)).length - 1) :
      (S (m + 1)).length - 1 = (S (m + 2)).length - 1 := by
    rw [h.next (m + 1), ← h.eq_of_length_pred_eq (Nat.le_succ m) hm, ← h.next m, ← hm]
  obtain hn | hn := Nat.le_total n 8
  · exact (h.sublist hn).subset
  · have hlast := Nat.stabilises_of_monotone hgrows (fun m => Nat.sub_le_sub_right (h.length_le_nine m) 1) hstable hn
    rw [h.eq_of_length_pred_eq hn hlast.symm]
    exact List.Subset.refl _

end

/-! Reachability (rule R107). -/

theorem mem_reachStep_iff {t : RomTable} {seen : List StateCode} {d : StateCode} :
    d ∈ reachStep t seen ↔ d.toNat ≤ 8 ∧ (d ∈ seen ∨ ∃ c ∈ seen, ∃ x, successor? t c x = some d) := by
  simp [reachStep, mem_stateCodes_iff, mem_senses]

/-- The reachable codes within `n` transitions are the ends of the paths of at most `n` samples. -/
theorem mem_reachSet_iff {t : RomTable} {n : ℕ} {d : StateCode} :
    d ∈ reachSet t n ↔ ∃ xs, xs.length ≤ n ∧ driveTo t codeGoNorthSouth xs = some d := by
  induction n generalizing d with
  | zero =>
    constructor
    · intro h
      exact ⟨[], le_rfl, congrArg some (List.mem_singleton.1 h).symm⟩
    · rintro ⟨xs, hlen, hxs⟩
      obtain rfl := List.eq_nil_of_length_eq_zero (Nat.le_zero.1 hlen)
      exact List.mem_singleton.2 (Option.some.inj hxs).symm
  | succ n ih =>
    rw [reachSet, mem_reachStep_iff]
    constructor
    · rintro ⟨-, hseen | ⟨c, hc, x, hx⟩⟩
      · obtain ⟨xs, hlen, hxs⟩ := ih.1 hseen
        exact ⟨xs, by omega, hxs⟩
      · obtain ⟨xs, hlen, hxs⟩ := ih.1 hc
        exact ⟨xs ++ [x], by simpa using hlen, by rw [driveTo_append, hxs, Option.bind_some, driveTo_singleton, hx]⟩
    · rintro ⟨xs, hlen, hxs⟩
      obtain rfl | ⟨ys, x, rfl⟩ := List.eq_nil_or_concat xs
      · cases hxs
        exact ⟨by decide, .inl (ih.2 ⟨[], Nat.zero_le _, rfl⟩)⟩
      · rw [List.concat_eq_append] at hlen hxs
        rw [driveTo_append, Option.bind_eq_some_iff] at hxs
        obtain ⟨c, hys, hx⟩ := hxs
        rw [driveTo_singleton] at hx
        refine ⟨(toNat_le_of_nextState (successor?_eq_some_iff.1 hx)).2, .inr ⟨c, ih.2 ⟨ys, ?_, hys⟩, x, hx⟩⟩
        simpa using hlen

theorem reachSet_isRounds (t : RomTable) : IsRounds (reachStep t) codeGoNorthSouth (reachSet t) where
  init := rfl
  next _ := rfl
  filters _ := ⟨_, rfl⟩
  mono hsub d hd := by
    obtain ⟨hle, hseen | ⟨c, hc, hx⟩⟩ := mem_reachStep_iff.1 hd
    · exact mem_reachStep_iff.2 ⟨hle, .inl (hsub hseen)⟩
    · exact mem_reachStep_iff.2 ⟨hle, .inr ⟨c, hsub hc, hx⟩⟩
  keeps := mem_reachStep_iff.2 ⟨by decide, .inl (List.mem_singleton.2 rfl)⟩

/-- Settles O57: a path of any length ends in a set of some round, and eight rounds reach all that is reached. -/
theorem reachabilityCheckIsExact : Obligations.ReachabilityCheckIsExact := by
  intro t _
  simp only [allReachable, List.all_eq_true, List.contains_iff_mem, mem_stateCodes_iff]
  constructor
  · intro h c hc
    obtain ⟨xs, -, hxs⟩ := mem_reachSet_iff.1 (h c hc)
    exact ⟨xs, hxs⟩
  · intro h c hc
    obtain ⟨xs, hxs⟩ := h c hc
    exact (reachSet_isRounds t).subset_eight _ (mem_reachSet_iff.2 ⟨xs, le_rfl, hxs⟩)

/-! Pedestrian liveness (rule R108). -/

/-- With P = 1 at each of `n` samples, GoPedestrian is entered from `c` within `n` transitions. -/
def ServedWithin (t : RomTable) (n : ℕ) (c : StateCode) : Prop :=
  ∀ xs : List Sense, xs.length = n → (∀ x ∈ xs, senseP x = true) →
    ∃ k, k ≤ n ∧ driveTo t c (xs.take k) = some codeGoPedestrian

theorem servedWithin_zero_iff {t : RomTable} {c : StateCode} : ServedWithin t 0 c ↔ c = codeGoPedestrian := by
  constructor
  · intro h
    obtain ⟨k, -, hk⟩ := h [] rfl (by simp)
    rw [List.take_nil] at hk
    exact Option.some.inj hk
  · rintro rfl xs - -
    exact ⟨0, le_rfl, rfl⟩

theorem servedWithin_succ_iff {t : RomTable} (htotal : isTotal t = true) {n : ℕ} {c : StateCode} (hc : c.toNat ≤ 8) :
    ServedWithin t (n + 1) c ↔
      c = codeGoPedestrian ∨ ∀ x, senseP x = true → ∃ d, successor? t c x = some d ∧ ServedWithin t n d := by
  constructor
  · intro h
    refine or_iff_not_imp_left.2 fun hne x hx => ?_
    obtain ⟨d, hd⟩ := exists_nextState htotal hc x
    have hsucc := successor?_eq_some_iff.2 hd
    refine ⟨d, hsucc, fun xs hlen hxs => ?_⟩
    obtain ⟨k, hk, hdrive⟩ := h (x :: xs) (by simp [hlen]) (List.forall_mem_cons.2 ⟨hx, hxs⟩)
    cases k with
    | zero => exact absurd (Option.some.inj hdrive) hne
    | succ k =>
      rw [List.take_succ_cons, driveTo_cons, hsucc, Option.bind_some] at hdrive
      exact ⟨k, Nat.le_of_succ_le_succ hk, hdrive⟩
  · rintro (rfl | h) xs hlen hxs
    · exact ⟨0, Nat.zero_le _, rfl⟩
    · obtain ⟨x, ys, rfl⟩ := List.exists_cons_of_length_eq_add_one hlen
      obtain ⟨hx, hys⟩ := List.forall_mem_cons.1 hxs
      obtain ⟨d, hsucc, hserved⟩ := h x hx
      obtain ⟨k, hk, hdrive⟩ := hserved ys (by simpa using hlen) hys
      exact ⟨k + 1, Nat.succ_le_succ hk, by rw [List.take_succ_cons, driveTo_cons, hsucc, Option.bind_some, hdrive]⟩

theorem mem_servedStep_iff {t : RomTable} {l : List StateCode} {c : StateCode} :
    c ∈ servedStep t l ↔ c.toNat ≤ 8 ∧
      (c = codeGoPedestrian ∨ ∀ x, senseP x = true → ∃ d, successor? t c x = some d ∧ d ∈ l) := by
  simp only [servedStep, List.mem_filter, mem_stateCodes_iff, Bool.or_eq_true, beq_iff_eq, List.all_eq_true,
    mem_pedSenses_iff]
  refine and_congr_right fun _ => or_congr_right (forall₂_congr fun x _ => ?_)
  cases successor? t c x with
  | none => simp
  | some d => simp

theorem servedSet_isRounds (t : RomTable) : IsRounds (servedStep t) codeGoPedestrian (servedSet t) where
  init := rfl
  next _ := rfl
  filters _ := ⟨_, rfl⟩
  mono hsub c hc := by
    obtain ⟨hle, hped | hnext⟩ := mem_servedStep_iff.1 hc
    · exact mem_servedStep_iff.2 ⟨hle, .inl hped⟩
    · refine mem_servedStep_iff.2 ⟨hle, .inr fun x hx => ?_⟩
      obtain ⟨d, hd, hdone⟩ := hnext x hx
      exact ⟨d, hd, hsub hdone⟩
  keeps := mem_servedStep_iff.2 ⟨by decide, .inl rfl⟩

/-- The codes served within `n` rounds are those that every list of `n` samples with P = 1 leads into GoPedestrian. -/
theorem mem_servedSet_iff {t : RomTable} (htotal : isTotal t = true) {n : ℕ} {c : StateCode} (hc : c.toNat ≤ 8) :
    c ∈ servedSet t n ↔ ServedWithin t n c := by
  induction n generalizing c with
  | zero => rw [servedWithin_zero_iff, servedSet, List.mem_singleton]
  | succ n ih =>
    have hcell (x : Sense) : (∃ d, successor? t c x = some d ∧ d ∈ servedSet t n) ↔
        ∃ d, successor? t c x = some d ∧ ServedWithin t n d :=
      exists_congr fun d => and_congr_right fun hd => ih (toNat_le_of_nextState (successor?_eq_some_iff.1 hd)).2
    rw [servedWithin_succ_iff htotal hc, servedSet, mem_servedStep_iff, and_iff_right hc]
    simp only [hcell]

/-- Settles O58: a code served within some bound is in a set of some round, and eight rounds serve all that are served. -/
theorem livenessCheckIsExact : Obligations.LivenessCheckIsExact := by
  intro t htotal
  simp only [pedestrianLive, List.all_eq_true, List.contains_iff_mem]
  constructor
  · intro h
    exact ⟨8, fun c hc => (mem_servedSet_iff htotal (toNat_le_of_mem_trafficCodes hc)).1 (h c hc)⟩
  · rintro ⟨n, h⟩ c hc
    exact (servedSet_isRounds t).subset_eight n ((mem_servedSet_iff htotal (toNat_le_of_mem_trafficCodes hc)).2 (h c hc))

/-! The bounds of the default TABLE (rules R108, R225). -/

/-- With P = 1 at each of `n` samples, GoPedestrian is entered from `c` within `n` transitions and `b` ticks of holds. -/
def ServedWithinTicks (t : RomTable) (n b : ℕ) (c : StateCode) : Prop :=
  ∀ xs : List Sense, xs.length = n → (∀ x ∈ xs, senseP x = true) →
    ∃ k m, k ≤ n ∧ driveTo t c (xs.take k) = some codeGoPedestrian ∧ driveTicks t c (xs.take k) = some m ∧ m ≤ b

theorem servedWithinTicks_goPedestrian (t : RomTable) (n b : ℕ) : ServedWithinTicks t n b codeGoPedestrian :=
  fun _ _ _ => ⟨0, 0, Nat.zero_le n, rfl, rfl, Nat.zero_le b⟩

/-- A state all of whose successors for P = 1 are served in time is served one transition later, after its own hold. -/
theorem servedWithinTicks_succ {t : RomTable} {n b : ℕ} {c : StateCode} {e : RomEntry} (hread : romRead t c = some e)
    (hle : ∀ x, (entryNext e x).toNat ≤ 8)
    (hserved : ∀ x, senseP x = true → ServedWithinTicks t n b (entryNext e x)) :
    ServedWithinTicks t (n + 1) (e.hold.toNat + b) c := by
  intro xs hlen hxs
  obtain ⟨x, ys, rfl⟩ := List.exists_cons_of_length_eq_add_one hlen
  obtain ⟨hx, hys⟩ := List.forall_mem_cons.1 hxs
  obtain ⟨k, m, hk, hdrive, hticks, hm⟩ := hserved x hx ys (by simpa using hlen) hys
  have hcell := drive_of_romRead hread (hle x)
  refine ⟨k + 1, e.hold.toNat + m, Nat.succ_le_succ hk, ?_, ?_, Nat.add_le_add_left hm _⟩
  · rw [List.take_succ_cons, driveTo_cons_of_drive hcell, hdrive]
  · rw [List.take_succ_cons, driveTicks_cons_of_drive hcell, hticks, Option.map_some]

theorem waitNorthSouth_servedWithin : ServedWithinTicks defaultTable 1 200 codeWaitNorthSouth := by
  have hnext : ∀ x, senseP x = true → entryNext rowWaitNorthSouth x = codeGoPedestrian := by decide
  refine servedWithinTicks_succ (e := rowWaitNorthSouth) (b := 0) rfl (by decide) fun x hx => ?_
  rw [hnext x hx]
  exact servedWithinTicks_goPedestrian _ _ _

theorem goNorthSouth_servedWithin : ServedWithinTicks defaultTable 2 800 codeGoNorthSouth := by
  have hnext : ∀ x, senseP x = true → entryNext rowGoNorthSouth x = codeWaitNorthSouth := by decide
  refine servedWithinTicks_succ (e := rowGoNorthSouth) (b := 200) rfl (by decide) fun x hx => ?_
  rw [hnext x hx]
  exact waitNorthSouth_servedWithin

/-- The asymmetry of rule R126: with N = 1 the way from WaitEastWest leads through GoNorthSouth. -/
theorem waitEastWest_servedWithin : ServedWithinTicks defaultTable 3 1000 codeWaitEastWest := by
  have hnext : ∀ x, senseP x = true →
      entryNext rowWaitEastWest x = codeGoPedestrian ∨ entryNext rowWaitEastWest x = codeGoNorthSouth := by decide
  refine servedWithinTicks_succ (e := rowWaitEastWest) (b := 800) rfl (by decide) fun x hx => ?_
  obtain h | h := hnext x hx
  · rw [h]; exact servedWithinTicks_goPedestrian _ _ _
  · rw [h]; exact goNorthSouth_servedWithin

theorem goEastWest_servedWithin : ServedWithinTicks defaultTable 4 1600 codeGoEastWest := by
  have hnext : ∀ x, senseP x = true → entryNext rowGoEastWest x = codeWaitEastWest := by decide
  refine servedWithinTicks_succ (e := rowGoEastWest) (b := 1000) rfl (by decide) fun x hx => ?_
  rw [hnext x hx]
  exact waitEastWest_servedWithin

/-- Settles O59: the four bounds, each a transition and a hold more than its successors'. -/
theorem pedestrianIsServedWithin : Obligations.PedestrianIsServedWithin :=
  List.forall_mem_cons.2 ⟨goEastWest_servedWithin, List.forall_mem_cons.2 ⟨waitEastWest_servedWithin,
    List.forall_mem_cons.2 ⟨goNorthSouth_servedWithin, List.forall_mem_singleton.2 waitNorthSouth_servedWithin⟩⟩⟩

end Sys2Proof.Machine
end

section
/-! The rows of the four traffic states (rules R122 to R125): one lemma gives all phases of a state word from its
entry. -/

namespace Sys2Proof.Machine

/-! The HOLD edge, one equation per outcome that is no fault (rule R163). -/

theorem holdEdge_of_tick {s : State} (hcnt : s.cnt ≠ 0#16) (htick : s.ports.tick = true) :
    holdEdge s = s.countTick := by
  simp [holdEdge, hcnt, htick]

theorem holdEdge_of_no_tick {s : State} (hcnt : s.cnt ≠ 0#16) (htick : s.ports.tick = false) : holdEdge s = s := by
  simp [holdEdge, hcnt, htick]

theorem State.countTick_of_hold {s : State} (hph : s.ph = phaseHold) :
    s.countTick = { s with cnt := s.cnt - 1#16, ph := if s.cnt = 1#16 then phaseSample else phaseHold } := by
  rw [State.countTick, hph]

/-- A state word runs the entry that the table has at its code, when the hold is positive and every successor is a state
code: no phase but 0b11, and HOLD with an empty counter, can fault (rules R83, R162 to R164). -/
theorem runsEntry_of_romRead {i : Instr} {c : StateCode} {t : RomTable} {e : RomEntry} {succ : Sense → StateCode}
    (hdecode : decodeState c = .ok i) (hread : romRead t c = some e) (hhold : e.hold ≠ 0#16)
    (hsucc : ∀ x, entryNext e x = succ x) (hle : ∀ x, (succ x).toNat ≤ 8) :
    RunsEntry i t e.traffic e.ped e.hold succ := by
  rintro s rfl
  rw [exec_of_decodeState hdecode]
  refine ⟨fun hph => ?emit, fun hph hcnt htick => ?tick, fun hph hcnt htick => ?noTick, fun hph => ?sample⟩
  case emit => rw [entryEdge_emit hph, emitEdge_of_hold_ne_zero hread hhold]; rfl
  case tick => rw [entryEdge_hold hph, holdEdge_of_tick hcnt htick, State.countTick_of_hold hph]
  case noTick => rw [entryEdge_hold hph, holdEdge_of_no_tick hcnt htick]
  case sample =>
    have hnext : (entryNext e s.sense).toNat ≤ 8 := by rw [hsucc]; exact hle s.sense
    rw [entryEdge_sample hph, sampleEdge_of_le hread hnext, hsucc]; rfl

/-! The successors of the four rows by the sample bits P, N, E. -/

theorem rowGoNorthSouth_next (x : Sense) :
    entryNext rowGoNorthSouth x = if senseP x = false ∧ senseE x = false then 0#4 else 1#4 := by
  revert x; decide

theorem rowWaitNorthSouth_next (x : Sense) : entryNext rowWaitNorthSouth x = if senseP x = true then 4#4 else 2#4 := by
  revert x; decide

theorem rowGoEastWest_next (x : Sense) :
    entryNext rowGoEastWest x = if senseP x = false ∧ senseN x = false then 2#4 else 3#4 := by
  revert x; decide

/-- The asymmetry of rule R126: unlike in WaitNorthSouth, N = 1 sends a pedestrian request to GoNorthSouth. -/
theorem rowWaitEastWest_next (x : Sense) :
    entryNext rowWaitEastWest x = if senseP x = true ∧ senseN x = false then 4#4 else 0#4 := by
  revert x; decide

/-! The statements. -/

/-- Settles O17: the word runs its entry at EMIT, HOLD and SAMPLE, and the tie cell of WalkOffPhase2 is read off its row. -/
theorem goNorthSouthRow : Obligations.GoNorthSouthRow :=
  ⟨decode_encode .goNorthSouth, by decide,
    runsEntry_of_romRead (c := codeGoNorthSouth) (e := rowGoNorthSouth) rfl rfl
      (by decide) rowGoNorthSouth_next (by decide),
    rfl, nextState_of_le (e := rowWalkOffPhase2) rfl (by decide)⟩

/-- Settles O18: the word runs its entry at EMIT, HOLD and SAMPLE, and the entry's packing is run. -/
theorem waitNorthSouthRow : Obligations.WaitNorthSouthRow :=
  ⟨decode_encode .waitNorthSouth, by decide,
    runsEntry_of_romRead (c := codeWaitNorthSouth) (e := rowWaitNorthSouth) rfl rfl
      (by decide) rowWaitNorthSouth_next (by decide)⟩

/-- Settles O19: the word runs its entry at EMIT, HOLD and SAMPLE, and the entry's packing is run. -/
theorem goEastWestRow : Obligations.GoEastWestRow :=
  ⟨decode_encode .goEastWest, by decide,
    runsEntry_of_romRead (c := codeGoEastWest) (e := rowGoEastWest) rfl rfl
      (by decide) rowGoEastWest_next (by decide)⟩

/-- Settles O20: the word runs its entry at EMIT, HOLD and SAMPLE, and the entry's packing is run. -/
theorem waitEastWestRow : Obligations.WaitEastWestRow :=
  ⟨decode_encode .waitEastWest, by decide,
    runsEntry_of_romRead (c := codeWaitEastWest) (e := rowWaitEastWest) rfl rfl
      (by decide) rowWaitEastWest_next (by decide)⟩

end Sys2Proof.Machine
end

section
/-! The rows of GoPedestrian and of the four blink states (rules R140, R142 to R145). -/

namespace Sys2Proof.Machine

/-! The successors of the five rows by the sample. -/

theorem rowGoPedestrian_next (x : Sense) :
    entryNext rowGoPedestrian x = if senseN x = false ∧ senseE x = false then 4#4 else 5#4 := by
  revert x; decide

/-- A row with one successor for all samples (rule R111). -/
theorem entryNext_of_replicate {e : RomEntry} {c : StateCode} (h : e.next = Vector.replicate 8 c) (x : Sense) :
    entryNext e x = c := by
  simp only [entryNext, h, Vector.getElem_replicate]

theorem rowWalkOffPhase2_next (x : Sense) :
    entryNext rowWalkOffPhase2 x = if senseE x = true ∧ senseN x = false then 2#4 else 0#4 := by
  revert x; decide

/-! The walk lamp, and which rows lead to the walk and to the clearance. -/

theorem lampWalk_defaultTable {c : StateCode} {e : RomEntry} (hread : romRead defaultTable c = some e)
    (hwalk : lampWalk e.ped = true) : c = codeGoPedestrian := by
  have hcodes : ∀ c, (romRead defaultTable c).any (lampWalk ·.ped) = true → c = codeGoPedestrian := by decide
  exact hcodes c (by rw [hread, Option.any_some, hwalk])

theorem nextState_goPedestrian_from : ∀ c x, nextState defaultTable c x = .ok codeGoPedestrian →
    c = codeWaitNorthSouth ∨ c = codeWaitEastWest ∨ c = codeGoPedestrian := by decide

theorem nextState_walkOnPhase1_from : ∀ c x, nextState defaultTable c x = .ok codeWalkOnPhase1 →
    c = codeGoPedestrian := by decide

/-! The statements. -/

/-- Settles O21: the word runs its entry at EMIT, HOLD and SAMPLE, and the walk lamp and the predecessors are read off the
nine rows. -/
theorem goPedestrianRow : Obligations.GoPedestrianRow :=
  ⟨decode_encode .goPedestrian, by decide,
    runsEntry_of_romRead (c := codeGoPedestrian) (e := rowGoPedestrian) rfl rfl
      (by decide) rowGoPedestrian_next (by decide),
    fun _ _ => lampWalk_defaultTable, nextState_goPedestrian_from⟩

/-- Settles O22: the word runs its entry at EMIT, HOLD and SAMPLE, and the predecessor is read off the nine rows. -/
theorem walkOnPhase1Row : Obligations.WalkOnPhase1Row :=
  ⟨decode_encode .walkOnPhase1, by decide,
    runsEntry_of_romRead (c := codeWalkOnPhase1) (e := rowWalkOnPhase1) rfl rfl
      (by decide) (entryNext_of_replicate rfl) (by decide),
    nextState_walkOnPhase1_from⟩

/-- Settles O23: the word runs its entry at EMIT, HOLD and SAMPLE, with the one successor of its row. -/
theorem walkOffPhase1Row : Obligations.WalkOffPhase1Row :=
  ⟨decode_encode .walkOffPhase1, by decide,
    runsEntry_of_romRead (c := codeWalkOffPhase1) (e := rowWalkOffPhase1) rfl rfl
      (by decide) (entryNext_of_replicate rfl) (by decide)⟩

/-- Settles O24: the word runs its entry at EMIT, HOLD and SAMPLE, with the one successor of its row. -/
theorem walkOnPhase2Row : Obligations.WalkOnPhase2Row :=
  ⟨decode_encode .walkOnPhase2, by decide,
    runsEntry_of_romRead (c := codeWalkOnPhase2) (e := rowWalkOnPhase2) rfl rfl
      (by decide) (entryNext_of_replicate rfl) (by decide)⟩

/-- Settles O25: the word runs its entry at EMIT, HOLD and SAMPLE, and N = 1 or a tie goes to GoNorthSouth. -/
theorem walkOffPhase2Row : Obligations.WalkOffPhase2Row :=
  ⟨decode_encode .walkOffPhase2, by decide,
    runsEntry_of_romRead (c := codeWalkOffPhase2) (e := rowWalkOffPhase2) rfl rfl
      (by decide) rowWalkOffPhase2_next (by decide)⟩

end Sys2Proof.Machine
end

section
/-! The clearance of rule R146: which edges count a tick, and the invariant of the four blink states that says how many
ticks they have counted. -/

namespace Sys2Proof.Machine

/-! Counted ticks of a trace (rules R166, R171). -/

theorem State.Runs.edgeEvent_eq {s : State} (h : s.Runs) (hflt : s.flt = 0b00#2) :
    s.edgeEvent = if s.ph = phaseEmit then some (emitEvent s) else if s.ph = phaseHold then holdEvent s
      else if s.ph = phaseSample then some (sampleEvent s) else some (.fault .illegalPhase) := by
  obtain ⟨hrst, hrel⟩ := h
  simp [State.edgeEvent, hrst, hrel, hflt]

theorem State.runs_of_edgeEvent_eq_count {s : State} (h : s.edgeEvent = some .count) : s.Runs ∧ s.flt = 0b00#2 := by
  unfold State.edgeEvent at h
  cases hrst : s.ports.rst with
  | true => simp [hrst] at h
  | false =>
    by_cases hrel : s.releaseRefusal = none
    · by_cases hflt : s.flt = 0b00#2
      · exact ⟨⟨hrst, hrel⟩, hflt⟩
      · simp [hrst, hrel, hflt] at h
    · simp [hrst, hrel] at h

theorem emitEvent_ne_count (s : State) : emitEvent s ≠ .count := by
  unfold emitEvent
  split
  · exact Event.noConfusion
  · split <;> exact Event.noConfusion

theorem sampleEvent_ne_count (s : State) : sampleEvent s ≠ .count := by
  unfold sampleEvent
  split <;> exact Event.noConfusion

theorem holdEvent_eq_count_iff (s : State) : holdEvent s = some .count ↔ s.cnt ≠ 0#16 ∧ s.ports.tick = true := by
  unfold holdEvent
  by_cases hcnt : s.cnt = 0#16
  · simp [hcnt]
  · simp [hcnt]

/-- Of all events only the HOLD edge's is a counted tick, and only when it strobes a positive counter. -/
theorem State.edgeEvent_eq_count_iff (s : State) :
    s.edgeEvent = some .count ↔
      s.Runs ∧ s.flt = 0b00#2 ∧ s.ph = phaseHold ∧ s.cnt ≠ 0#16 ∧ s.ports.tick = true := by
  by_cases hruns : s.Runs ∧ s.flt = 0b00#2
  · obtain ⟨hruns, hflt⟩ := hruns
    rw [hruns.edgeEvent_eq hflt]
    obtain hph | hph | hph | hph := phase_cases s.ph
    · simp [hph, emitEvent_ne_count, phaseEmit, phaseHold]
    · simp [hph, holdEvent_eq_count_iff, hruns, hflt, phaseEmit, phaseHold]
    · simp [hph, sampleEvent_ne_count, phaseEmit, phaseHold, phaseSample]
    · simp [hph, phaseEmit, phaseHold, phaseSample]
  · exact ⟨fun h => absurd (State.runs_of_edgeEvent_eq_count h) hruns,
      fun ⟨hr, hf, _⟩ => absurd ⟨hr, hf⟩ hruns⟩

theorem countedTicks_traceOf_succ {s t : State} (h : step s = .next t) (n : ℕ) :
    countedTicks (traceOf (n + 1) s) =
      (if s.edgeEvent = some .count then 1 else 0) + countedTicks (traceOf n t) := by
  simp only [traceOf, h, countedTicks]
  cases s.edgeEvent with
  | none => simp
  | some e =>
    by_cases he : e = .count
    · simp [he, Nat.add_comm]
    · simp [he]

theorem runEdges_succ {s t : State} (h : step s = .next t) (n : ℕ) : runEdges (n + 1) s = runEdges n t := by
  simp only [runEdges, h]

/-- After an edge with `rst = 0` no edge is refused (rule R188). -/
theorem State.releaseRefusal_release_endEdge (s : State) : s.release.endEdge.releaseRefusal = none := rfl

/-! The blink entries of the default table. -/

/-- The pedestrian word of a blink state: don't-walk flashes (rules R141 to R145). -/
def blinkPed (c : StateCode) : PedWord := if c = codeWalkOnPhase1 ∨ c = codeWalkOnPhase2 then 0b10#2 else 0b00#2

theorem outputsFor_blink : ∀ c : StateCode, 5 ≤ c.toNat → c.toNat ≤ 8 →
    outputsFor defaultTable c = .ok (allRed, blinkPed c, 50#16) := by decide

theorem nextState_blink : ∀ (c : StateCode) (x : Sense), 5 ≤ c.toNat → c.toNat < 8 →
    nextState defaultTable c x = .ok (c + 1#4) := by decide

theorem emitEdge_of_outputsFor {c : StateCode} {s : State} {t : TrafficWord} {p : PedWord} {h : Ticks}
    (hout : outputsFor s.params.table c = .ok (t, p, h)) (hhold : h ≠ 0#16) :
    emitEdge c s = ((s.lightWrite t p).loadTimer h).setPhase phaseHold := by
  simp [emitEdge, hout, hhold]

/-! The invariant. -/

/-- A controller with the default table is in a blink state, its counter fits the phase, and from the EMIT edge on it
shows that state's outputs. -/
structure State.Blinking (s : State) : Prop where
  not_faulted : s.flt = 0b00#2
  table : s.params.table = defaultTable
  first_le : 5 ≤ s.cur.toNat
  le_last : s.cur.toNat ≤ 8
  phase : s.ph = phaseEmit ∨ (s.ph = phaseHold ∧ 1 ≤ s.cnt.toNat ∧ s.cnt.toNat ≤ 50) ∨
    (s.ph = phaseSample ∧ s.cnt = 0#16)
  shown : s.ph ≠ phaseEmit → s.trafficQ = allRed ∧ s.pedQ = blinkPed s.cur

/-- How many ticks of the clearance the registers of a blink state say are counted: 50 in each blink state before, and in
this one what the counter no longer holds. -/
def State.clearanceTicks (s : State) : ℕ :=
  50 * (s.cur.toNat - 5) + if s.ph = phaseEmit then 0 else 50 - s.cnt.toNat

theorem State.clearanceTicks_of_emit {s : State} (h : s.ph = phaseEmit) :
    s.clearanceTicks = 50 * (s.cur.toNat - 5) := by
  rw [State.clearanceTicks, if_pos h, Nat.add_zero]

theorem State.clearanceTicks_of_not_emit {s : State} (h : s.ph ≠ phaseEmit) :
    s.clearanceTicks = 50 * (s.cur.toNat - 5) + (50 - s.cnt.toNat) := by
  rw [State.clearanceTicks, if_neg h]

theorem State.clearanceTicks_bounds (s : State) :
    50 * (s.cur.toNat - 5) ≤ s.clearanceTicks ∧ s.clearanceTicks ≤ 50 * (s.cur.toNat - 5) + 50 := by
  unfold State.clearanceTicks
  split <;> omega

/-- From `s` the blinking goes on in `t`, with all red shown and `n` more ticks of the clearance counted. -/
structure State.BlinksOn (s : State) (n : ℕ) (t : State) : Prop where
  blinking : t.Blinking
  all_red : t.trafficQ = allRed
  ticks : t.clearanceTicks = s.clearanceTicks + n

theorem State.BlinksOn.release_endEdge {s t : State} {n : ℕ} (h : s.BlinksOn n t) : s.BlinksOn n t.release.endEdge where
  blinking := ⟨h.blinking.not_faulted, h.blinking.table, h.blinking.first_le, h.blinking.le_last, h.blinking.phase,
    h.blinking.shown⟩
  all_red := h.all_red
  ticks := h.ticks

/-! The three phases keep the invariant. -/

section
variable {s : State} (h : s.Blinking)
include h

theorem State.Blinking.blinksOn_emitEdge (hph : s.ph = phaseEmit) : s.BlinksOn 0 (emitEdge s.cur s) := by
  have hout : outputsFor s.params.table s.cur = .ok (allRed, blinkPed s.cur, 50#16) := by
    rw [h.table]; exact outputsFor_blink s.cur h.first_le h.le_last
  rw [emitEdge_of_outputsFor hout (by decide)]
  refine ⟨⟨h.not_faulted, h.table, h.first_le, h.le_last, .inr (.inl ⟨rfl, by simp⟩), fun _ => ⟨rfl, rfl⟩⟩, rfl, ?_⟩
  rw [s.clearanceTicks_of_emit hph, State.clearanceTicks_of_not_emit (by simp [phaseEmit, phaseHold])]
  simp

theorem State.Blinking.blinksOn_countTick (hph : s.ph = phaseHold) (hpos : 1 ≤ s.cnt.toNat) (hle : s.cnt.toNat ≤ 50) :
    s.BlinksOn 1 s.countTick := by
  have hne : s.ph ≠ phaseEmit := by rw [hph]; decide
  have hcnt : s.countTick.cnt.toNat = s.cnt.toNat - 1 := by
    rw [State.countTick_cnt]; bv_omega
  have hphase : s.countTick.ph = phaseHold ∧ 1 ≤ s.countTick.cnt.toNat ∧ s.countTick.cnt.toNat ≤ 50 ∨
      s.countTick.ph = phaseSample ∧ s.countTick.cnt = 0#16 := by
    rw [hcnt, State.countTick_ph, State.countTick_cnt, hph]
    by_cases hone : s.cnt = 1#16
    · exact .inr (by simp [hone])
    · exact .inl ⟨if_neg hone, by bv_omega⟩
  have hne' : s.countTick.ph ≠ phaseEmit := by
    obtain ⟨hp, -⟩ | ⟨hp, -⟩ := hphase <;> rw [hp] <;> decide
  obtain ⟨hred, hped⟩ := h.shown hne
  refine ⟨⟨h.not_faulted, h.table, h.first_le, h.le_last, .inr hphase, fun _ => ⟨hred, hped⟩⟩, hred, ?_⟩
  rw [s.clearanceTicks_of_not_emit hne, State.clearanceTicks_of_not_emit hne', hcnt, State.countTick_cur]
  omega

/-- Before 200 ticks are counted the blink state is not the last one, so its only successor is the next blink state. -/
theorem State.Blinking.blinksOn_sampleEdge (hph : s.ph = phaseSample) (hcnt : s.cnt = 0#16) (hlt : s.clearanceTicks < 200) :
    s.BlinksOn 0 (sampleEdge s.cur s) := by
  have hne : s.ph ≠ phaseEmit := by rw [hph]; decide
  have hticks : s.clearanceTicks = 50 * (s.cur.toNat - 5) + 50 := by
    rw [s.clearanceTicks_of_not_emit hne, hcnt]; rfl
  have hfirst := h.first_le
  have hcur : s.cur.toNat < 8 := by omega
  have hsucc : (s.cur + 1#4).toNat = s.cur.toNat + 1 := by bv_omega
  have hnext : nextState s.params.table s.cur s.sense = .ok (s.cur + 1#4) := by
    rw [h.table]; exact nextState_blink s.cur s.sense hfirst hcur
  obtain ⟨hred, -⟩ := h.shown hne
  rw [sampleEdge_of_nextState hnext]
  refine ⟨⟨h.not_faulted, h.table, ?_, ?_, .inl rfl, fun hp => absurd rfl hp⟩, hred, ?_⟩
  · simp only [State.setPhase_cur, State.setCur_cur, hsucc]; omega
  · simp only [State.setPhase_cur, State.setCur_cur, hsucc]; omega
  · rw [hticks, State.clearanceTicks_of_emit rfl]
    simp only [State.setPhase_cur, State.setCur_cur, hsucc]; omega

/-- An edge that is no reset edge keeps the blinking, and the registers count the ticks that the trace counts. -/
theorem State.Blinking.step_blinksOn (hruns : s.Runs) (hlt : s.clearanceTicks < 200) :
    ∃ t, step s = .next t ∧ t.releaseRefusal = none ∧ t.inputs = s.inputs.tail ∧
      s.BlinksOn (if s.edgeEvent = some .count then 1 else 0) t := by
  refine ⟨_, hruns.step_of_not_faulted h.not_faulted, State.releaseRefusal_release_endEdge _, ?_, ?_⟩
  · obtain ⟨-, -, hinputs, -⟩ := entryEdge_sameConfig s.cur s
    rw [State.endEdge_inputs, State.release_inputs, hinputs]
  refine State.BlinksOn.release_endEdge ?_
  obtain hph | ⟨hph, hpos, hle⟩ | ⟨hph, hcnt⟩ := h.phase
  · rw [if_neg (by simp [s.edgeEvent_eq_count_iff, hph, phaseEmit, phaseHold]), entryEdge_emit hph]
    exact h.blinksOn_emitEdge hph
  · have hcnt : s.cnt ≠ 0#16 := by bv_omega
    rw [entryEdge_hold hph]
    cases htick : s.ports.tick with
    | true =>
      rw [if_pos (s.edgeEvent_eq_count_iff.2 ⟨hruns, h.not_faulted, hph, hcnt, htick⟩), holdEdge_of_tick hcnt htick]
      exact h.blinksOn_countTick hph hpos hle
    | false =>
      obtain ⟨hred, -⟩ := h.shown (by rw [hph]; decide)
      rw [if_neg (by simp [s.edgeEvent_eq_count_iff, htick]), holdEdge_of_no_tick hcnt htick]
      exact ⟨h, hred, rfl⟩
  · rw [if_neg (by simp [s.edgeEvent_eq_count_iff, hph, phaseSample, phaseHold]), entryEdge_sample hph]
    exact h.blinksOn_sampleEdge hph hcnt hlt

end

/-- A run from a blink state, with no reset, blinks on as long as fewer than 200 ticks of the clearance are counted. -/
theorem State.Blinking.runEdges_blinking {rest : List EdgeInput} (l : List EdgeInput) {s : State} (h : s.Blinking)
    (hrelease : s.releaseRefusal = none) (hreset : noReset l) (hinputs : s.inputs = l ++ rest)
    (hlt : s.clearanceTicks + countedTicks (traceOf l.length s) < 200) :
    ∃ t, runEdges l.length s = .next t ∧ t.Blinking ∧ (l ≠ [] ∨ s.trafficQ = allRed → t.trafficQ = allRed) ∧
      t.clearanceTicks = s.clearanceTicks + countedTicks (traceOf l.length s) := by
  induction l generalizing s with
  | nil => exact ⟨s, rfl, h, fun hred => hred.resolve_left (absurd rfl), rfl⟩
  | cons i l ih =>
    obtain ⟨hi, hl⟩ := List.forall_mem_cons.1 hreset
    have hruns : s.Runs := ⟨by rw [s.ports_of_cons hinputs, hi], hrelease⟩
    obtain ⟨u, hstep, hrelease', htail, hon⟩ := h.step_blinksOn hruns (by omega)
    rw [List.length_cons, countedTicks_traceOf_succ hstep, ← Nat.add_assoc, ← hon.ticks] at hlt ⊢
    rw [runEdges_succ hstep]
    obtain ⟨t, hrun, hblink, hred, hticks⟩ := ih hon.blinking hrelease' hl (by rw [htail, hinputs]; rfl) hlt
    exact ⟨t, hrun, hblink, fun _ => hred (.inr hon.all_red), hticks⟩

/-- Settles O56: WalkOnPhase1 at its EMIT edge blinks with no tick counted, the run keeps that, and the count of ticks that
the registers tell lies in the blink state's 50. -/
theorem clearanceIsNotCutShort : Obligations.ClearanceIsNotCutShort := by
  intro s l rest hflt hrelease htable hph hcur hreset hinputs hlt
  have hblink : s.Blinking :=
    ⟨hflt, htable, by rw [hcur]; decide, by rw [hcur]; decide, .inl hph, fun hne => absurd hph hne⟩
  have hzero : s.clearanceTicks = 0 := by rw [s.clearanceTicks_of_emit hph, hcur]; rfl
  obtain ⟨t, hrun, ht, hred, hticks⟩ := hblink.runEdges_blinking l hrelease hreset hinputs (by omega)
  rw [hzero, Nat.zero_add] at hticks
  obtain ⟨hlower, hupper⟩ := t.clearanceTicks_bounds
  rw [hticks] at hlower hupper
  refine ⟨t, hrun, ht.first_le, ht.le_last, hlower, hupper, fun hne => ?_, fun hne => ?_⟩
  · rw [State.trafficOut_of_not_faulted ht.not_faulted, hred (.inl hne)]; rfl
  · obtain ⟨-, hped⟩ := ht.shown hne
    rw [State.pedOut_of_not_faulted ht.not_faulted, hped]; rfl

end Sys2Proof.Machine
end

section
/-! The three micro-operations in every state (rules R162 to R164), and the step that decodes the phase (rule R161). -/

namespace Sys2Proof.Machine

/-! The arms of `exec` for the PHASE2 words. -/

theorem exec_emit (s : State) : exec .emit s = .next (emitEdge s.cur s) := rfl
theorem exec_hold (s : State) : exec .hold s = .next (holdEdge s) := rfl
theorem exec_sample (s : State) : exec .sample s = .next (sampleEdge s.cur s) := rfl

/-! The faulting outcomes that need no entry (rules R72, R163). -/

section
variable {c : StateCode} {s : State} (h : 8 < c.toNat)
include h

theorem emitEdge_of_gt : emitEdge c s = s.takeFault .illegalState := by
  simp [emitEdge, outputsFor, (romRead_none_iff s.params.table c).2 h]

theorem sampleEdge_of_code_gt : sampleEdge c s = s.takeFault .illegalState := by
  simp [sampleEdge, nextState, (romRead_none_iff s.params.table c).2 h]

end

theorem holdEdge_of_cnt_eq_zero {s : State} (h : s.cnt = 0#16) : holdEdge s = s.takeFault .zeroHold := by
  simp [holdEdge, h]

/-! The step that decodes the phase. -/

theorem runPhase_of_decodePhase {s : State} {i : Instr} (h : decodePhase s.ph = .ok i) : runPhase s = exec i s := by
  simp [runPhase, h]

theorem runPhase_of_not_decodePhase {s : State} (h : ∀ i, decodePhase s.ph ≠ .ok i) :
    runPhase s = .next (s.takeFault .illegalPhase) := by
  unfold runPhase
  cases hd : decodePhase s.ph with
  | ok i => exact absurd hd (h i)
  | error _ => rfl

theorem State.Runs.step_eq_runPhase {s : State} (h : s.Runs) (hflt : s.flt = 0b00#2) :
    step s = mapNext (fun t => t.release.endEdge) (runPhase s) := by
  rw [h.step_eq, runEdge, if_pos hflt]

/-! The inputs that an EMIT or SAMPLE edge does not read. -/

/-- SAMPLE reads of the inputs the masked sample only (rules R24, R75, R164). -/
theorem sampleEdge_endEdge_congr_sense {c : StateCode} {s : State} {i j : EdgeInput} {l : List EdgeInput}
    (hsense : State.sense { s with inputs := i :: l } = State.sense { s with inputs := j :: l }) :
    (sampleEdge c { s with inputs := i :: l }).endEdge = (sampleEdge c { s with inputs := j :: l }).endEdge := by
  simp only [sampleEdge, hsense]
  cases nextState s.params.table c (State.sense { s with inputs := j :: l }) <;> rfl

/-- Only HOLD reads the tick strobe (rules R163, R166, R220). -/
theorem entryEdge_endEdge_congr_sensorRaw {c : StateCode} {s : State} {i j : EdgeInput} {l : List EdgeInput}
    (hraw : i.sensorRaw = j.sensorRaw) (hph : s.ph ≠ phaseHold) :
    (entryEdge c { s with inputs := i :: l }).endEdge = (entryEdge c { s with inputs := j :: l }).endEdge := by
  obtain h | h | h | h := phase_cases s.ph
  · have he (m : List EdgeInput) := entryEdge_emit (c := c) (s := { s with inputs := m }) h
    rw [he, he, emitEdge_withInputs c s (i :: l), emitEdge_withInputs c s (j :: l)]; rfl
  · exact absurd h hph
  · have he (m : List EdgeInput) := entryEdge_sample (c := c) (s := { s with inputs := m }) h
    rw [he, he]
    exact sampleEdge_endEdge_congr_sense (by simp only [State.sense, State.sensorRead, State.ports, hraw])
  · have he (m : List EdgeInput) := entryEdge_illegal (c := c) (s := { s with inputs := m }) h
    rw [he, he]; rfl

/-! The statements. Those of the three micro-operations have names of their own, since the model's `emitEdge`, `holdEdge`
and `sampleEdge` have theirs. -/

/-- Settles O27: EMIT of a code without an entry, of an entry with hold 0, and of any other entry. -/
theorem emitEdgeInEveryState : Obligations.EmitEdge := by
  refine fun s => ⟨fun hcur => ?noEntry, fun e hread => ⟨fun hhold => ?zeroHold, fun hhold => ?loads⟩⟩
  case noEntry => rw [exec_emit, emitEdge_of_gt hcur]; rfl
  case zeroHold => rw [exec_emit, emitEdge_of_hold_eq_zero hread hhold]; rfl
  case loads => rw [exec_emit, emitEdge_of_hold_ne_zero hread hhold]; rfl

/-- Settles O28: HOLD with an empty counter, with a strobe, and without one. -/
theorem holdEdgeInEveryState : Obligations.HoldEdge := by
  refine fun s => ⟨fun hcnt => ?zeroHold, fun hcnt htick => ?counts, fun hcnt htick => ?waits⟩
  case zeroHold => rw [exec_hold, holdEdge_of_cnt_eq_zero hcnt]; rfl
  case counts => rw [exec_hold, holdEdge_of_tick hcnt htick]; rfl
  case waits => rw [exec_hold, holdEdge_of_no_tick hcnt htick]

/-- Settles O29: SAMPLE of a code without an entry, of a dangling successor, and of a state code. -/
theorem sampleEdgeInEveryState : Obligations.SampleEdge := by
  refine fun s => ⟨fun hcur => ?noEntry, fun e hread => ⟨fun hgt => ?dangling, fun hle => ?loads⟩⟩
  case noEntry => rw [exec_sample, sampleEdge_of_code_gt hcur]; rfl
  case dangling => rw [exec_sample, sampleEdge_of_gt hread hgt]; rfl
  case loads => rw [exec_sample, sampleEdge_of_le hread hle]; rfl

/-- Settles O31: of a controller that is not faulted the step is `runPhase`, which decodes the phase. -/
theorem stepRunsDecodedPhase : Obligations.StepRunsDecodedPhase := by
  refine fun s => ⟨step_of_rst, State.Runs.step_of_faulted, fun hruns hflt i hdecode => ?_, fun hruns hflt hnone => ?_⟩
  · rw [hruns.step_eq_runPhase hflt, runPhase_of_decodePhase hdecode]
  · rw [hruns.step_eq_runPhase hflt, runPhase_of_not_decodePhase hnone]; rfl

/-- Settles O43: apart from `rst` the next input reaches a step through the entry's edge, which at EMIT and SAMPLE reads
the sensor at most. -/
theorem tickReadOnlyInHold : Obligations.TickReadOnlyInHold :=
  fun _ _ _ _ hrst hraw hph => step_congr_next_input hrst (entryEdge_endEdge_congr_sensorRaw hraw hph)

end Sys2Proof.Machine
end

section
/-! What an edge does, said once with the event that reports it (rules R161 to R165, R171). -/

namespace Sys2Proof.Machine

/-- An edge from `s` with this event, if it has one, ends in this state. -/
inductive State.Edge (s : State) : Option Event → State → Prop
  | reset (rst : s.ports.rst = true) : s.Edge (some .reset) s.doReset.endEdge
  | quiet (rst : s.ports.rst = false) (faulted : s.flt ≠ 0b00#2) : s.Edge none s.release.endEdge
  | emit {e : RomEntry} (rst : s.ports.rst = false) (not_faulted : s.flt = 0b00#2) (phase : s.ph = phaseEmit)
      (read : romRead s.params.table s.cur = some e) :
      s.Edge (some (.emit e.traffic e.ped))
        (((s.lightWrite e.traffic e.ped).loadTimer e.hold).setPhase phaseHold).release.endEdge
  | count (rst : s.ports.rst = false) (phase : s.ph = phaseHold) (cnt : s.cnt ≠ 0#16) (tick : s.ports.tick = true) :
      s.Edge (some .count) s.countTick.release.endEdge
  | wait (rst : s.ports.rst = false) (phase : s.ph = phaseHold) (tick : s.ports.tick = false) :
      s.Edge none s.release.endEdge
  | sample {n : StateCode} (rst : s.ports.rst = false) (phase : s.ph = phaseSample)
      (next : nextState s.params.table s.cur s.sense = .ok n) :
      s.Edge (some (.sample s.sense)) ((s.setCur n).setPhase phaseEmit).release.endEdge
  | fault (rst : s.ports.rst = false) (f : FaultCause) : s.Edge (some (.fault f)) (s.takeFault f).release.endEdge

/-! Every step is one of these edges, phase by phase. -/

section
variable {s : State} (hrst : s.ports.rst = false)
include hrst

theorem edge_emitEdge (hflt : s.flt = 0b00#2) (hph : s.ph = phaseEmit) :
    s.Edge (some (emitEvent s)) (emitEdge s.cur s).release.endEdge := by
  unfold emitEvent
  obtain ⟨hread, hedge⟩ | ⟨e, hread, ⟨hhold, hedge⟩ | ⟨hhold, hedge⟩⟩ := emitEdge_cases s.cur s
  · simp only [hedge, outputsFor, hread]
    exact .fault hrst _
  · simp only [hedge, outputsFor_of_romRead hread, if_pos hhold]
    exact .fault hrst _
  · simp only [hedge, outputsFor_of_romRead hread, if_neg hhold]
    exact .emit hrst hflt hph hread

theorem edge_holdEdge (hph : s.ph = phaseHold) : s.Edge (holdEvent s) (holdEdge s).release.endEdge := by
  unfold holdEvent
  obtain ⟨hcnt, hedge⟩ | ⟨hcnt, htick, hedge⟩ | ⟨hcnt, htick, hedge⟩ := holdEdge_cases s
  · rw [hedge, if_pos hcnt]; exact .fault hrst _
  · rw [hedge, if_neg hcnt, if_pos htick]; exact .count hrst hph hcnt htick
  · rw [hedge, if_neg hcnt, if_neg (by simp [htick])]; exact .wait hrst hph htick

theorem edge_sampleEdge (hph : s.ph = phaseSample) :
    s.Edge (some (sampleEvent s)) (sampleEdge s.cur s).release.endEdge := by
  unfold sampleEvent sampleEdge
  cases hnext : nextState s.params.table s.cur s.sense with
  | error f => exact .fault hrst f
  | ok n => exact .sample hrst hph hnext

end

theorem edge_of_step {s t : State} (h : step s = .next t) : s.Edge s.edgeEvent t := by
  obtain ⟨hrst, hs⟩ | ⟨-, r, -, hs⟩ | ⟨hrst, hrel, hflt, hs⟩ | ⟨hrst, hrel, hflt, hs⟩ := step_cases s
  all_goals rw [hs] at h; cases h
  · rw [State.edgeEvent, if_pos hrst]
    exact .reset hrst
  · have hevent : s.edgeEvent = none := by simp [State.edgeEvent, hrst, hrel, hflt]
    rw [hevent]
    exact .quiet hrst hflt
  · have hevent := State.Runs.edgeEvent_eq ⟨hrst, hrel⟩ hflt
    obtain hph | hph | hph | hph := phase_cases s.ph
    · rw [hevent, if_pos hph, entryEdge_emit hph]
      exact edge_emitEdge hrst hflt hph
    · rw [hevent, hph, if_neg (by decide), if_pos rfl, entryEdge_hold hph]
      exact edge_holdEdge hrst hph
    · rw [hevent, hph, if_neg (by decide), if_neg (by decide), if_pos rfl, entryEdge_sample hph]
      exact edge_sampleEdge hrst hph
    · rw [hevent, hph, if_neg (by decide), if_neg (by decide), if_neg (by decide), entryEdge_illegal hph]
      exact .fault hrst _

/-! What each event reports. -/

section
variable {s t : State}

theorem State.Edge.sameRegs_of_reset (h : s.Edge (some .reset) t) : State.reset.sameRegs t := by
  cases h
  exact ⟨rfl, rfl, rfl, rfl, rfl, rfl⟩

theorem State.Edge.shows_of_emit {tr : TrafficWord} {p : PedWord} (h : s.Edge (some (.emit tr p)) t) :
    t.trafficOut = tr ∧ t.pedOut = p ∧ t.ph = phaseHold := by
  cases h with
  | emit _ hflt _ _ => exact ⟨State.trafficOut_of_not_faulted hflt, State.pedOut_of_not_faulted hflt, rfl⟩

/-- A counted tick takes one from a positive counter, so it does not wrap (rule R167). -/
theorem countTick_toNat (h : s.cnt ≠ 0#16) : s.countTick.cnt.toNat + 1 = s.cnt.toNat := by
  rw [State.countTick_cnt]
  bv_omega

theorem State.Edge.cnt_of_count (h : s.Edge (some .count) t) : t.cnt.toNat + 1 = s.cnt.toNat := by
  cases h with
  | count _ _ hcnt _ => exact countTick_toNat hcnt

theorem State.Edge.cur_of_sample {x : Sense} (h : s.Edge (some (.sample x)) t) :
    x = s.sense ∧ nextState s.params.table s.cur x = .ok t.cur := by
  cases h with
  | sample _ _ hnext => exact ⟨rfl, hnext⟩

theorem State.Edge.flt_of_fault {f : FaultCause} (h : s.Edge (some (.fault f)) t) : t.flt = faultCode f := by
  cases h
  rfl

theorem State.Edge.sameRegs_of_none (h : s.Edge none t) : s.sameRegs t := by
  cases h with
  | quiet => exact ⟨rfl, rfl, rfl, rfl, rfl, rfl⟩
  | wait => exact ⟨rfl, rfl, rfl, rfl, rfl, rfl⟩

/-! The writers of `ph` and `cnt`. -/

/-- No edge writes the phase code 0b11 (rule R165). -/
theorem State.Edge.ph_eq_illegal {ev : Option Event} (h : s.Edge ev t) (ht : t.ph = 0b11#2) :
    s.ph = 0b11#2 ∧ s.ports.rst = false := by
  cases h with
  | reset => exact absurd ht (by simp)
  | quiet hrst | fault hrst | wait hrst => exact ⟨ht, hrst⟩
  | emit => exact absurd ht (by simp [phaseHold])
  | sample => exact absurd ht (by simp [phaseEmit])
  | count hrst hph =>
    have hcount : (if s.cnt = 1#16 then phaseSample else s.ph) = 0b11#2 := ht
    split at hcount
    · exact absurd hcount (by decide)
    · exact ⟨hcount, hrst⟩

theorem State.Edge.cnt_cases {ev : Option Event} (h : s.Edge ev t) :
    t.cnt = s.cnt ∨ (s.ports.rst = true ∧ t.cnt = 0#16) ∨
    (s.ph = phaseEmit ∧ ∃ e, romRead s.params.table s.cur = some e ∧ t.cnt = e.hold) ∨
    (s.ph = phaseHold ∧ s.ports.tick = true ∧ t.cnt.toNat + 1 = s.cnt.toNat) := by
  cases h with
  | reset hrst => exact .inr (.inl ⟨hrst, rfl⟩)
  | quiet | wait | sample | fault => exact .inl rfl
  | emit _ _ hph hread => exact .inr (.inr (.inl ⟨hph, _, hread, rfl⟩))
  | count _ hph hcnt htick => exact .inr (.inr (.inr ⟨hph, htick, countTick_toNat hcnt⟩))

end

/-! The statements. -/

/-- Settles O45: the step is the edge that its event reports, and each event belongs to one kind of edge. -/
theorem eventsReportTheEdge : Obligations.EventsReportTheEdge := by
  intro s t hstep
  have h := edge_of_step hstep
  exact ⟨fun hev => (hev ▸ h).sameRegs_of_reset, fun tr p hev => (hev ▸ h).shows_of_emit,
    fun hev => (hev ▸ h).cnt_of_count, fun x hev => (hev ▸ h).cur_of_sample,
    fun f hev => (hev ▸ h).flt_of_fault, fun hev => (hev ▸ h).sameRegs_of_none⟩

/-- Settles O30: phase 0b11 takes IllegalPhase, and an edge that ends in it has kept it. -/
theorem illegalPhaseRaisesFault : Obligations.IllegalPhaseRaisesFault := by
  refine ⟨fun s hruns hflt hph => ?_, fun s t hstep => (edge_of_step hstep).ph_eq_illegal⟩
  rw [hruns.step_of_not_faulted hflt, entryEdge_illegal hph]
  rfl

/-- Settles O33: the edges that write `cnt`; one less than a 16-bit value is at most 65534. -/
theorem counterArithmetic : Obligations.CounterArithmetic := by
  intro s t hstep hne
  obtain hreset | hemit | ⟨hph, htick, hless⟩ := (edge_of_step hstep).cnt_cases.resolve_left hne
  · exact .inl hreset
  · exact .inr (.inl hemit)
  · exact .inr (.inr ⟨hph, htick, hless, by have := s.cnt.isLt; omega⟩)

end Sys2Proof.Machine
end

section
/-! The hold counts exactly (rule R166): the state that fewer strobes than ticks left lead to, and the last strobe. -/

namespace Sys2Proof.Machine

/-! Runs. -/

theorem runEdges_add {m : ℕ} {s t : State} (h : runEdges m s = .next t) (n : ℕ) :
    runEdges (m + n) s = runEdges n t := by
  induction m generalizing s with
  | zero => cases h; rw [Nat.zero_add]
  | succ m ih =>
    cases hstep : step s with
    | fault r => cases r
    | refused r => simp [runEdges, hstep] at h
    | next u =>
      rw [runEdges_succ hstep] at h
      rw [Nat.add_right_comm, runEdges_succ hstep, ih h]

theorem runEdges_one (s : State) : runEdges 1 s = step s := by
  cases h : step s <;> simp [runEdges, h]

/-- The next scheduled input does not assert `rst`, so the edge is not refused and no reset. -/
theorem State.runs_of_inputs {s : State} {i : EdgeInput} {l : List EdgeInput} (hrelease : s.releaseRefusal = none)
    (hinputs : s.inputs = i :: l) (hrst : i.rst = false) : s.Runs :=
  ⟨by rw [s.ports_of_cons hinputs, hrst], hrelease⟩

theorem State.releaseRefusal_eq_none_iff (s : State) :
    s.releaseRefusal = none ↔ s.released = true ∨ paramsRefusal s.params = none := by
  unfold State.releaseRefusal
  cases s.released with
  | false => simp
  | true => simp

/-! Strobes of a list of inputs. -/

theorem strobes_append (l m : List EdgeInput) : strobes (l ++ m) = strobes l + strobes m := by
  simp [strobes]

theorem strobes_singleton {i : EdgeInput} (h : i.tick = true) : strobes [i] = 1 := by
  simp [strobes, h]

/-! The hold. -/

/-- A controller in HOLD of a launch that has a run. -/
structure State.Holding (s : State) : Prop where
  not_faulted : s.flt = 0b00#2
  not_refused : s.releaseRefusal = none
  phase : s.ph = phaseHold

/-- A controller in HOLD after the edges of `l`, with `rest` to come, when none of them counts the last tick. -/
def State.held (s : State) (l rest : List EdgeInput) : State :=
  { s with cnt := s.cnt - BitVec.ofNat 16 (strobes l), released := s.released || !l.isEmpty
           inputs := rest, edge := s.edge + l.length }

/-- A controller in HOLD `n` edges later, with `rest` to come, when the last of them counts the last tick. -/
def State.holdEnded (s : State) (n : ℕ) (rest : List EdgeInput) : State :=
  { s with cnt := 0#16, ph := phaseSample, released := true, inputs := rest, edge := s.edge + n }

theorem State.held_nil {s : State} {rest : List EdgeInput} (h : s.inputs = rest) : s.held [] rest = s := by
  simp [State.held, strobes, ← h]

theorem State.held_held (s : State) (l l' m rest : List EdgeInput) :
    (s.held l m).held l' rest = s.held (l ++ l') rest := by
  have hreleased : (s.released || !l.isEmpty || !l'.isEmpty) = (s.released || !(l ++ l').isEmpty) := by
    cases l <;> simp
  simp [State.held, strobes_append, BitVec.ofNat_add, sub_sub, Nat.add_assoc, hreleased]

theorem State.held_cnt_toNat {s : State} {l : List EdgeInput} (h : strobes l ≤ s.cnt.toNat) (rest : List EdgeInput) :
    (s.held l rest).cnt.toNat = s.cnt.toNat - strobes l := by
  have hlt := s.cnt.isLt
  simp only [State.held, BitVec.toNat_sub, BitVec.toNat_ofNat]
  omega

section
variable {s : State} (h : s.Holding)
include h

theorem State.Holding.held (l rest : List EdgeInput) : (s.held l rest).Holding where
  not_faulted := h.not_faulted
  not_refused := (s.held l rest).releaseRefusal_eq_none_iff.2 <|
    (s.releaseRefusal_eq_none_iff.1 h.not_refused).imp_left fun hreleased => by simp [State.held, hreleased]
  phase := h.phase

theorem State.Holding.step_eq {i : EdgeInput} {l : List EdgeInput} (hinputs : s.inputs = i :: l) (hrst : i.rst = false) :
    step s = .next (holdEdge s).release.endEdge := by
  rw [(s.runs_of_inputs h.not_refused hinputs hrst).step_of_not_faulted h.not_faulted, entryEdge_hold h.phase]

theorem State.Holding.step_held {i : EdgeInput} {l : List EdgeInput} (hinputs : s.inputs = i :: l) (hrst : i.rst = false)
    (hlt : strobes [i] < s.cnt.toNat) : step s = .next (s.held [i] l) := by
  have hcnt : s.cnt ≠ 0#16 := by bv_omega
  have hports := s.ports_of_cons hinputs
  rw [h.step_eq hinputs hrst]
  cases htick : i.tick with
  | false =>
    rw [holdEdge_of_no_tick hcnt (by rw [hports, htick])]
    simp [State.held, State.release, State.endEdge, strobes, htick, hinputs]
  | true =>
    have hone : s.cnt ≠ 1#16 := by
      rw [strobes_singleton htick] at hlt
      bv_omega
    rw [holdEdge_of_tick hcnt (by rw [hports, htick])]
    simp [State.held, State.release, State.endEdge, State.countTick, strobes, htick, hinputs, hone]

/-- Rule R163: the tick that finds one left leads to SAMPLE. -/
theorem State.Holding.step_holdEnded {i : EdgeInput} {l : List EdgeInput} (hinputs : s.inputs = i :: l)
    (hrst : i.rst = false) (htick : i.tick = true) (hcnt : s.cnt = 1#16) : step s = .next (s.holdEnded 1 l) := by
  rw [h.step_eq hinputs hrst, holdEdge_of_tick (by rw [hcnt]; decide) (by rw [s.ports_of_cons hinputs, htick])]
  simp [State.holdEnded, State.release, State.endEdge, State.countTick, hinputs, hcnt]

end

theorem State.Holding.runEdges_held {rest : List EdgeInput} (l : List EdgeInput) {s : State} (h : s.Holding)
    (hreset : noReset l) (hinputs : s.inputs = l ++ rest) (hlt : strobes l < s.cnt.toNat) :
    runEdges l.length s = .next (s.held l rest) := by
  induction l generalizing s with
  | nil => exact congrArg Host.Outcome.next (State.held_nil hinputs).symm
  | cons i l ih =>
    obtain ⟨hi, hl⟩ := List.forall_mem_cons.1 hreset
    rw [List.cons_append] at hinputs
    rw [← List.singleton_append, strobes_append] at hlt
    have hleft := State.held_cnt_toNat (s := s) (l := [i]) (by omega) (l ++ rest)
    calc runEdges (l.length + 1) s
      _ = runEdges l.length (s.held [i] (l ++ rest)) := runEdges_succ (h.step_held hinputs hi (by omega)) _
      _ = .next ((s.held [i] (l ++ rest)).held l rest) := ih (h.held _ _) hl rfl (by omega)
      _ = .next (s.held (i :: l) rest) := by rw [State.held_held]; rfl

/-- The whole hold: all ticks but one, then the last. -/
theorem State.Holding.runEdges_holdEnded {s : State} (h : s.Holding) {m rest : List EdgeInput} {i : EdgeInput}
    (hreset : noReset (m ++ [i])) (hinputs : s.inputs = m ++ i :: rest) (htick : i.tick = true)
    (hfull : strobes m + 1 = s.cnt.toNat) :
    runEdges (m.length + 1) s = .next (s.holdEnded (m.length + 1) rest) := by
  obtain ⟨hm, hi⟩ := List.forall_mem_append.1 hreset
  have hone : (s.held m (i :: rest)).cnt = 1#16 := by
    have hleft := State.held_cnt_toNat (s := s) (l := m) (by omega) (i :: rest)
    bv_omega
  rw [runEdges_add (h.runEdges_held m hm hinputs (by omega)), runEdges_one,
    (h.held _ _).step_holdEnded rfl (hi i (List.mem_singleton_self i)) htick hone]
  rfl

/-- Settles O51: edge by edge a strobe takes one tick, and the strobe that finds one tick left leads to SAMPLE. -/
theorem holdIsExact : Obligations.HoldIsExact := by
  intro s l rest hflt hrelease hph hreset hinputs
  have h : s.Holding := ⟨hflt, hrelease, hph⟩
  refine ⟨h.runEdges_held l hreset hinputs, ?_⟩
  rintro m i rfl htick hfull
  rw [strobes_append, strobes_singleton htick] at hfull
  rw [List.append_assoc] at hinputs
  rw [List.length_append]
  exact h.runEdges_holdEnded hreset hinputs htick hfull

end Sys2Proof.Machine
end

section
/-! Runs follow the drive-cycle abstraction (rules R169, R170): one cycle part by part, then any number of cycles. -/

namespace Sys2Proof.Machine

/-- The two look-ups that a drive cycle is made of (rule R169). -/
theorem drive_eq_ok {t : RomTable} {c : StateCode} {x : Sense} {d : DriveCycle} (h : drive t c x = .ok d) :
    outputsFor t c = .ok (d.traffic, d.ped, d.hold) ∧ nextState t c x = .ok d.next := by
  obtain ⟨hread, hnext⟩ | ⟨e, hread, -, hnext⟩ | ⟨e, hread, -, hnext⟩ := nextState_cases t c x
  · simp [drive, outputsFor, hread] at h
  · simp [drive, outputsFor, hread, hnext] at h
  · rw [outputsFor_of_romRead hread]
    simp only [drive, outputsFor_of_romRead hread, hnext] at h
    cases h
    exact ⟨rfl, hnext⟩

theorem drive_outputs {t : RomTable} {c : StateCode} {x : Sense} {d : DriveCycle} {e : RomEntry}
    (h : drive t c x = .ok d) (hread : romRead t c = some e) : d.traffic = e.traffic ∧ d.ped = e.ped := by
  obtain ⟨hout, -⟩ := drive_eq_ok h
  rw [outputsFor_of_romRead hread] at hout
  simp only [Except.ok.injEq, Prod.mk.injEq] at hout
  obtain ⟨htraffic, hped, -⟩ := hout
  exact ⟨htraffic.symm, hped.symm⟩

/-- The controller stands at the EMIT edge of the drive cycle `d`, and its inputs `e`, `l`, `last` and `z` carry it through
that cycle. -/
structure State.AtCycle (s : State) (d : DriveCycle) (e last z : EdgeInput) (l rest : List EdgeInput) : Prop where
  not_faulted : s.flt = 0b00#2
  not_refused : s.releaseRefusal = none
  phase : s.ph = phaseEmit
  cell : drive s.params.table s.cur (maskSense (BitVec.ofNat s.params.sensorRawW z.sensorRaw)) = .ok d
  quiet : noReset (e :: (l ++ [last, z]))
  full : strobes l + 1 = d.hold.toNat
  ends : last.tick = true
  inputs : s.inputs = e :: (l ++ last :: z :: rest)

/-- `s` after `n` edges of its drive cycle `d`, past the EMIT edge, with `rest` to come. -/
def State.inCycle (s : State) (d : DriveCycle) (c : StateCode) (p : PhaseCode) (cnt : Ticks) (n : ℕ)
    (rest : List EdgeInput) : State :=
  { s with cur := c, ph := p, cnt := cnt, trafficQ := d.traffic, pedQ := d.ped, released := true
           inputs := rest, edge := s.edge + n }

theorem State.inCycle_ports {s : State} (h : s.flt = 0b00#2) (d : DriveCycle) (c : StateCode) (p : PhaseCode)
    (cnt : Ticks) (n : ℕ) (rest : List EdgeInput) :
    (s.inCycle d c p cnt n rest).trafficOut = d.traffic ∧ (s.inCycle d c p cnt n rest).pedOut = d.ped :=
  have hflt : (s.inCycle d c p cnt n rest).flt = 0b00#2 := h
  ⟨State.trafficOut_of_not_faulted hflt, State.pedOut_of_not_faulted hflt⟩

theorem State.held_inCycle (s : State) (d : DriveCycle) (c : StateCode) (p : PhaseCode) (cnt : Ticks) (n : ℕ)
    (l m rest : List EdgeInput) :
    (s.inCycle d c p cnt n m).held l rest =
      s.inCycle d c p (cnt - BitVec.ofNat 16 (strobes l)) (n + l.length) rest := by
  simp [State.held, State.inCycle, Nat.add_assoc]

theorem State.holdEnded_inCycle (s : State) (d : DriveCycle) (c : StateCode) (p : PhaseCode) (cnt : Ticks) (n k : ℕ)
    (m rest : List EdgeInput) :
    (s.inCycle d c p cnt n m).holdEnded k rest = s.inCycle d c phaseSample 0#16 (n + k) rest := by
  simp [State.holdEnded, State.inCycle, Nat.add_assoc]

section
variable {s : State} {d : DriveCycle} {e last z : EdgeInput} {l rest : List EdgeInput} (h : s.AtCycle d e last z l rest)
include h

theorem State.AtCycle.noReset_parts : e.rst = false ∧ noReset (l ++ [last]) ∧ z.rst = false := by
  obtain ⟨he, hl⟩ := List.forall_mem_cons.1 h.quiet
  rw [← List.singleton_append, ← List.append_assoc] at hl
  obtain ⟨hhold, hz⟩ := List.forall_mem_append.1 hl
  exact ⟨he, hhold, hz z (List.mem_singleton_self z)⟩

theorem State.AtCycle.runEdges_emit :
    runEdges 1 s = .next (s.inCycle d s.cur phaseHold d.hold 1 (l ++ last :: z :: rest)) := by
  obtain ⟨he, -, -⟩ := h.noReset_parts
  obtain ⟨hout, -⟩ := drive_eq_ok h.cell
  have hhold : d.hold ≠ 0#16 := by
    have hfull := h.full
    bv_omega
  rw [runEdges_one, (s.runs_of_inputs h.not_refused h.inputs he).step_of_not_faulted h.not_faulted,
    entryEdge_emit h.phase, emitEdge_of_outputsFor hout hhold]
  simp [State.inCycle, State.lightWrite, State.loadTimer, State.setPhase, State.release, State.endEdge, h.inputs]

theorem State.AtCycle.holding (cnt : Ticks) (n : ℕ) (r : List EdgeInput) :
    (s.inCycle d s.cur phaseHold cnt n r).Holding :=
  ⟨h.not_faulted, rfl, rfl⟩

/-- Before its last strobe the hold goes on. -/
theorem State.AtCycle.runEdges_hold {k : ℕ} (hk : k ≤ l.length) :
    ∃ n r, runEdges (1 + k) s = .next (s.inCycle d s.cur phaseHold n (1 + k) r) := by
  obtain ⟨-, hreset, -⟩ := h.noReset_parts
  obtain ⟨hl, -⟩ := List.forall_mem_append.1 hreset
  have hsplit : l = l.take k ++ l.drop k := (List.take_append_drop k l).symm
  have hlt : strobes (l.take k) < d.hold.toNat := by
    rw [← h.full, hsplit, strobes_append, ← hsplit]
    omega
  have hheld := (h.holding d.hold 1 (l ++ last :: z :: rest)).runEdges_held (l.take k)
    (rest := l.drop k ++ last :: z :: rest) (fun i hi => hl i (List.mem_of_mem_take hi))
    (by rw [← List.append_assoc, ← hsplit]; rfl) hlt
  rw [State.held_inCycle, List.length_take_of_le hk] at hheld
  exact ⟨_, _, (runEdges_add h.runEdges_emit k).trans hheld⟩

theorem State.AtCycle.runEdges_holdEnded :
    runEdges (1 + (l.length + 1)) s =
      .next (s.inCycle d s.cur phaseSample 0#16 (1 + (l.length + 1)) (z :: rest)) := by
  obtain ⟨-, hreset, -⟩ := h.noReset_parts
  rw [runEdges_add h.runEdges_emit, (h.holding _ _ _).runEdges_holdEnded hreset rfl h.ends h.full,
    State.holdEnded_inCycle]

theorem State.AtCycle.runEdges_cycle :
    runEdges (1 + (l.length + 1) + 1) s =
      .next (s.inCycle d d.next phaseEmit 0#16 (1 + (l.length + 1) + 1) rest) := by
  obtain ⟨-, -, hz⟩ := h.noReset_parts
  obtain ⟨-, hnext⟩ := drive_eq_ok h.cell
  have hruns : (s.inCycle d s.cur phaseSample 0#16 (1 + (l.length + 1)) (z :: rest)).Runs :=
    State.runs_of_inputs rfl rfl hz
  rw [runEdges_add h.runEdges_holdEnded, runEdges_one, hruns.step_of_not_faulted h.not_faulted, entryEdge_sample rfl,
    sampleEdge_of_nextState hnext]
  rfl

/-- From its EMIT edge to the next one a drive cycle shows its outputs (rule R104). -/
theorem State.AtCycle.runEdges_inCycle {m : ℕ} (hpos : 1 ≤ m) (hle : m ≤ 1 + (l.length + 1) + 1) :
    ∃ c p n r, runEdges m s = .next (s.inCycle d c p n m r) := by
  obtain ⟨k, hk, rfl⟩ | rfl | rfl :
      (∃ k ≤ l.length, m = 1 + k) ∨ m = 1 + (l.length + 1) ∨ m = 1 + (l.length + 1) + 1 := by
    by_cases hhold : m ≤ 1 + l.length
    · exact .inl ⟨m - 1, by omega, by omega⟩
    · exact .inr (by omega)
  · exact ⟨_, _, h.runEdges_hold hk⟩
  · exact ⟨_, _, _, _, h.runEdges_holdEnded⟩
  · exact ⟨_, _, _, _, h.runEdges_cycle⟩

end

/-! Any number of cycles. -/

theorem FollowsDrive.driveTo_eq {w : ℕ} {t : RomTable} {c c' : StateCode} {xs : List Sense} {l : List EdgeInput}
    (h : FollowsDrive w t c xs l c') : driveTo t c xs = some c' := by
  induction h with
  | nil c => rfl
  | cycle cell _ _ _ _ _ ih => rw [driveTo_cons_of_drive cell, ih]

/-- `t` stands at the EMIT edge of the entry `c`, `n` edges after `s`, with `rest` to come. -/
structure State.CyclesTo (s t : State) (c : StateCode) (n : ℕ) (rest : List EdgeInput) : Prop where
  run : runEdges n s = .next t
  cur : t.cur = c
  phase : t.ph = phaseEmit
  not_faulted : t.flt = 0b00#2
  params : t.params = s.params
  inputs : t.inputs = rest
  edge : t.edge = s.edge + n

theorem State.AtCycle.cyclesTo {s : State} {d : DriveCycle} {e last z : EdgeInput} {l rest : List EdgeInput}
    (h : s.AtCycle d e last z l rest) :
    s.CyclesTo (s.inCycle d d.next phaseEmit 0#16 (1 + (l.length + 1) + 1) rest) d.next (1 + (l.length + 1) + 1) rest :=
  ⟨h.runEdges_cycle, rfl, rfl, h.not_faulted, rfl, rfl, rfl⟩

theorem State.CyclesTo.trans {s t u : State} {c c' : StateCode} {m n : ℕ} {l rest : List EdgeInput}
    (h : s.CyclesTo t c m l) (h' : t.CyclesTo u c' n rest) : s.CyclesTo u c' (m + n) rest where
  run := (runEdges_add h.run n).trans h'.run
  cur := h'.cur
  phase := h'.phase
  not_faulted := h'.not_faulted
  params := h'.params.trans h.params
  inputs := h'.inputs
  edge := by rw [h'.edge, h.edge, Nat.add_assoc]

theorem FollowsDrive.cyclesTo {w : ℕ} {t : RomTable} {c c' : StateCode} {xs : List Sense} {l : List EdgeInput}
    (h : FollowsDrive w t c xs l c') {s : State} {rest : List EdgeInput} (hflt : s.flt = 0b00#2)
    (hrelease : s.releaseRefusal = none) (hph : s.ph = phaseEmit) (hwidth : s.params.sensorRawW = w)
    (htable : s.params.table = t) (hcur : s.cur = c) (hinputs : s.inputs = l ++ rest) :
    ∃ u, s.CyclesTo u c' l.length rest := by
  induction h generalizing s with
  | nil c => exact ⟨s, rfl, hcur, hph, hflt, rfl, hinputs, rfl⟩
  | @cycle c c' d x xs e last z l' later cell quiet full ends sampled _ ih =>
    have hcycle : s.AtCycle d e last z l' (later ++ rest) :=
      ⟨hflt, hrelease, hph, by rw [hwidth, htable, hcur, sampled]; exact cell, quiet, full, ends, by simpa using hinputs⟩
    obtain ⟨u, hu⟩ := ih hcycle.cyclesTo.not_faulted rfl rfl hwidth htable rfl rfl
    have hlength : (e :: (l' ++ last :: z :: later)).length = 1 + (l'.length + 1) + 1 + later.length := by
      simp only [List.length_cons, List.length_append]
      omega
    exact ⟨u, hlength ▸ hcycle.cyclesTo.trans hu⟩

/-- Settles O52: by induction over the cycles, each of which is an EMIT edge, a whole hold and a SAMPLE edge. -/
theorem runFollowsDriveCycles : Obligations.RunFollowsDriveCycles := by
  intro s xs l rest c hflt hrelease hph hdrive hinputs
  obtain ⟨t, ht⟩ := hdrive.cyclesTo hflt hrelease hph rfl rfl rfl hinputs
  exact ⟨hdrive.driveTo_eq, t, ht.run, ht.cur, ht.phase, ht.not_faulted, ht.params, ht.inputs, ht.edge⟩

/-- Settles O53: one cycle, whose every edge keeps what the EMIT edge has loaded. -/
theorem cycleOutputsAreConstant : Obligations.CycleOutputsAreConstant := by
  intro s x l rest c e m hflt hrelease hph hdrive hread hinputs hpos hle
  cases hdrive with
  | @cycle _ _ d _ _ e' last z l' later cell quiet full ends sampled more =>
    cases more
    have hcycle : s.AtCycle d e' last z l' rest :=
      ⟨hflt, hrelease, hph, by rw [sampled]; exact cell, quiet, full, ends, by simpa using hinputs⟩
    have hlength : m ≤ 1 + (l'.length + 1) + 1 := by
      simp only [List.length_cons, List.length_append, List.length_nil] at hle
      omega
    obtain ⟨c, p, n, r, hrun⟩ := hcycle.runEdges_inCycle hpos hlength
    obtain ⟨htraffic, hped⟩ := drive_outputs cell hread
    obtain ⟨htrafficOut, hpedOut⟩ := State.inCycle_ports hflt d c p n m r
    exact ⟨_, hrun, htrafficOut.trans htraffic, hpedOut.trans hped⟩

end Sys2Proof.Machine
end

section
/-! The faults: where an edge detects each of them (rule R182), how one is entered (rule R183), and that only a reset edge
leaves it (rule R185). -/

namespace Sys2Proof.Machine

theorem faultOf_faultCode (f : FaultCause) : faultOf (faultCode f) = some f := by
  cases f <;> rfl

theorem faultCode_injective : Function.Injective faultCode := fun f g h =>
  Option.some.inj (by rw [← faultOf_faultCode f, h, faultOf_faultCode])

theorem faultCode_ne_zero (f : FaultCause) : faultCode f ≠ 0b00#2 := by
  cases f <;> decide

/-! Detection. -/

/-- The detection points of rule R182: the coming edge, when it is in a run and the controller is not faulted, meets the
condition of this fault. -/
def State.Detects (s : State) : FaultCause → Prop
  | .illegalPhase => s.ph = 0b11#2
  | .illegalState =>
    ((s.ph = phaseEmit ∨ s.ph = phaseSample) ∧ 8 < s.cur.toNat) ∨
    (s.ph = phaseSample ∧ ∃ e, romRead s.params.table s.cur = some e ∧ 8 < (entryNext e s.sense).toNat)
  | .zeroHold =>
    (s.ph = phaseEmit ∧ ∃ e, romRead s.params.table s.cur = some e ∧ e.hold = 0#16) ∨
    (s.ph = phaseHold ∧ s.cnt = 0#16)

/-- An edge that detects a fault takes it and does nothing else. -/
theorem State.Detects.entryEdge_eq {s : State} {f : FaultCause} (h : s.Detects f) :
    entryEdge s.cur s = s.takeFault f := by
  cases f with
  | illegalPhase => exact entryEdge_illegal h
  | illegalState =>
    obtain ⟨hph | hph, hgt⟩ | ⟨hph, e, hread, hgt⟩ := h
    · rw [entryEdge_emit hph, emitEdge_of_gt hgt]
    · rw [entryEdge_sample hph, sampleEdge_of_code_gt hgt]
    · rw [entryEdge_sample hph, sampleEdge_of_gt hread hgt]
  | zeroHold =>
    obtain ⟨hph, e, hread, hhold⟩ | ⟨hph, hcnt⟩ := h
    · rw [entryEdge_emit hph, emitEdge_of_hold_eq_zero hread hhold]
    · rw [entryEdge_hold hph, holdEdge_of_cnt_eq_zero hcnt]

/-- An edge that detects no fault leaves `flt` as it is. -/
theorem entryEdge_flt_cases (s : State) : (∃ f, s.Detects f) ∨ (entryEdge s.cur s).flt = s.flt := by
  obtain hph | hph | hph | hph := phase_cases s.ph
  · rw [entryEdge_emit hph]
    obtain ⟨hnone, -⟩ | ⟨e, hread, ⟨hhold, -⟩ | ⟨-, hedge⟩⟩ := emitEdge_cases s.cur s
    · exact .inl ⟨.illegalState, .inl ⟨.inl hph, (romRead_none_iff _ _).1 hnone⟩⟩
    · exact .inl ⟨.zeroHold, .inl ⟨hph, e, hread, hhold⟩⟩
    · exact .inr (by rw [hedge]; rfl)
  · rw [entryEdge_hold hph]
    obtain ⟨hcnt, -⟩ | ⟨-, -, hedge⟩ | ⟨-, -, hedge⟩ := holdEdge_cases s
    · exact .inl ⟨.zeroHold, .inr ⟨hph, hcnt⟩⟩
    · exact .inr (by rw [hedge]; rfl)
    · exact .inr (by rw [hedge])
  · rw [entryEdge_sample hph]
    obtain ⟨hnone, -⟩ | ⟨e, hread, hgt, -⟩ | ⟨e, hread, hle, -⟩ := nextState_cases s.params.table s.cur s.sense
    · exact .inl ⟨.illegalState, .inl ⟨.inr hph, (romRead_none_iff _ _).1 hnone⟩⟩
    · exact .inl ⟨.illegalState, .inr ⟨hph, e, hread, hgt⟩⟩
    · exact .inr (by rw [sampleEdge_of_le hread hle]; rfl)
  · exact .inl ⟨.illegalPhase, hph⟩

section
variable {s t : State}

theorem State.Runs.flt_of_detects (hruns : s.Runs) (hflt : s.flt = 0b00#2) (hstep : step s = .next t) {f : FaultCause}
    (h : s.Detects f) : t.flt = faultCode f := by
  rw [hruns.step_of_not_faulted hflt, h.entryEdge_eq] at hstep
  cases hstep
  rfl

/-- The two directions of detection: no other edge writes a fault code, and no two causes share one. -/
theorem State.Runs.flt_eq_faultCode_iff (hruns : s.Runs) (hflt : s.flt = 0b00#2) (hstep : step s = .next t)
    (f : FaultCause) : t.flt = faultCode f ↔ s.Detects f := by
  refine ⟨fun ht => ?_, hruns.flt_of_detects hflt hstep⟩
  obtain ⟨g, hg⟩ | hkept := entryEdge_flt_cases s
  · have hcode : faultCode f = faultCode g := ht.symm.trans (hruns.flt_of_detects hflt hstep hg)
    rwa [faultCode_injective hcode]
  · rw [hruns.step_of_not_faulted hflt] at hstep
    cases hstep
    exact absurd (ht.symm.trans (hkept.trans hflt)) (faultCode_ne_zero f)

end

/-! The writers of `flt`, and a faulted controller. -/

theorem State.Edge.flt_cases {s t : State} {ev : Option Event} (h : s.Edge ev t) :
    t.flt = s.flt ∨ t.flt = 0b00#2 ∨ ∃ f, t = (s.takeFault f).release.endEdge := by
  cases h with
  | reset => exact .inr (.inl rfl)
  | quiet | emit | count | wait | sample => exact .inl rfl
  | fault _ f => exact .inr (.inr ⟨f, rfl⟩)

/-- Without a reset a faulted controller keeps its registers over any number of edges (rule R183). -/
theorem runEdges_sameRegs_of_faulted {rest : List EdgeInput} (l : List EdgeInput) {s : State} (hflt : s.flt ≠ 0b00#2)
    (hrelease : s.releaseRefusal = none) (hreset : noReset l) (hinputs : s.inputs = l ++ rest) :
    ∃ t, runEdges l.length s = .next t ∧ s.sameRegs t := by
  induction l generalizing s with
  | nil => exact ⟨s, rfl, rfl, rfl, rfl, rfl, rfl, rfl⟩
  | cons i l ih =>
    obtain ⟨hi, hl⟩ := List.forall_mem_cons.1 hreset
    have hstep := (s.runs_of_inputs hrelease hinputs hi).step_of_faulted hflt
    have htail : s.release.endEdge.inputs = l ++ rest := congrArg List.tail hinputs
    obtain ⟨t, hrun, hregs⟩ := ih (s := s.release.endEdge) hflt s.releaseRefusal_release_endEdge hl htail
    exact ⟨t, (runEdges_succ hstep _).trans hrun, hregs⟩

/-! The statements about faults. -/

/-- Settles O34: an edge writes a fault's code exactly at that fault's detection points. -/
theorem faultDetectionPoints : Obligations.FaultDetectionPoints := by
  intro s t hruns hflt hstep
  have hiff := hruns.flt_eq_faultCode_iff hflt hstep
  exact ⟨hiff .illegalPhase, hiff .illegalState, hiff .zeroHold⟩

/-- Settles O35: of the edges only a fault makes `flt` other than 0, and a faulted controller is quiet by induction over
the inputs. -/
theorem faultEntryAndQuiescence : Obligations.FaultEntryAndQuiescence := by
  refine ⟨fun s t hflt hstep ht => ?_, fun s l rest hflt hrelease => runEdges_sameRegs_of_faulted l hflt hrelease,
    fun s hflt => ⟨State.trafficOut_of_faulted hflt, State.pedOut_of_faulted hflt⟩⟩
  obtain hkept | hzero | ⟨f, rfl⟩ := (edge_of_step hstep).flt_cases
  · exact absurd (hkept.trans hflt) ht
  · exact absurd hzero ht
  · rfl

/-- Settles O36: reset first, then the code that is kept, then one detection point for each check. -/
theorem faultPriority : Obligations.FaultPriority := by
  intro s t hstep
  refine ⟨fun hrst => ?reset, fun hruns hflt => ?kept, fun hruns hflt hph => ?phase, fun hruns hflt hph hgt => ?emitCode,
    fun hruns hflt hph hgt => ?sampleCode,
    fun hruns hflt e hread => ⟨fun hph hhold => ?hold, fun hph hgt => ?successor⟩⟩
  case reset => rw [step_of_rst hrst] at hstep; cases hstep; rfl
  case kept => rw [hruns.step_of_faulted hflt] at hstep; cases hstep; rfl
  case phase => exact hruns.flt_of_detects hflt hstep (f := .illegalPhase) hph
  case emitCode => exact hruns.flt_of_detects hflt hstep (f := .illegalState) (.inl ⟨.inl hph, hgt⟩)
  case sampleCode => exact hruns.flt_of_detects hflt hstep (f := .illegalState) (.inl ⟨.inr hph, hgt⟩)
  case hold => exact hruns.flt_of_detects hflt hstep (f := .zeroHold) (.inl ⟨hph, e, hread, hhold⟩)
  case successor => exact hruns.flt_of_detects hflt hstep (f := .illegalState) (.inr ⟨hph, e, hread, hgt⟩)

/-- Settles O37: of the ways a step can go, a faulted controller has the reset edge, which loads every reset value, and the
edge that changes no register. -/
theorem onlyResetLeavesFault : Obligations.OnlyResetLeavesFault := by
  intro s t hflt hstep hne
  obtain ⟨hrst, hs⟩ | ⟨-, r, -, hs⟩ | ⟨-, -, -, hs⟩ | ⟨-, -, hzero, -⟩ := step_cases s
  · rw [hs] at hstep; cases hstep
    exact ⟨hrst, ⟨rfl, rfl, rfl, rfl, rfl, rfl⟩, rfl⟩
  · rw [hs] at hstep; cases hstep
  · rw [hs] at hstep; cases hstep
    exact absurd rfl hne
  · exact absurd hzero hflt

/-! Sensor values beyond three bits are no fault (rule R187). -/

/-- The masked sample is all that an edge reads of the raw sensor value (rules R75, R187). -/
theorem sense_congr_mod_eight {s : State} {i j : EdgeInput} {l : List EdgeInput} (hwidth : 3 ≤ s.params.sensorRawW)
    (hraw : i.sensorRaw % 8 = j.sensorRaw % 8) :
    State.sense { s with inputs := i :: l } = State.sense { s with inputs := j :: l } := by
  have hsense (k : EdgeInput) := sense_toNat (s := { s with inputs := k :: l }) hwidth
  exact BitVec.eq_of_toNat_eq (((hsense i).trans hraw).trans (hsense j).symm)

/-- Settles O44: apart from `rst` the next input reaches a step through the entry's edge, which at SAMPLE reads the masked
sample and in the other phases `tick` at most. -/
theorem highSensorBitsDoNotMatter : Obligations.HighSensorBitsDoNotMatter := by
  intro s i j l hwidth hrst htick hraw
  refine step_congr_next_input hrst ?_
  by_cases hph : s.ph = phaseSample
  · have he (m : List EdgeInput) := entryEdge_sample (c := s.cur) (s := { s with inputs := m }) hph
    rw [he, he]
    exact sampleEdge_endEdge_congr_sense (sense_congr_mod_eight hwidth hraw)
  · exact entryEdge_endEdge_congr_tick htick hph

/-! A malformed TABLE (rule R188). -/

theorem paramsRefusal_of_malformed {p : Params} (h : wfTable p.table = false) :
    paramsRefusal p = some .malformedTable := if_pos h

theorem launch_of_paramsRefusal {p : Params} {r : Refusal} (h : paramsRefusal p = some r) : launch p = .refused r := by
  simp [launch, h]

theorem State.supplyTable_of_released {s : State} (h : s.released = true) (t : RomTable) :
    s.supplyTable t = .refused .tableFrozen := if_pos h

/-- Before the release a malformed TABLE is refused for what it is. -/
theorem State.supplyTable_of_malformed {s : State} {t : RomTable} (hreleased : s.released = false)
    (hwf : wfTable t = false) : s.supplyTable t = .refused .malformedTable := by
  simp [State.supplyTable, hreleased, hwf]

/-- Settles O5: the same check of the parameters refuses the launch and the release; a supplied TABLE is refused as frozen
after the release, and before it as malformed. -/
theorem malformedTableIsRefused : Obligations.MalformedTableIsRefused := by
  refine ⟨fun p hwf => launch_of_paramsRefusal (paramsRefusal_of_malformed hwf), fun s hrst hreleased hwf => ?_,
    fun s t hwf => ?_, fun s t hreleased => State.supplyTable_of_released hreleased t⟩
  · exact step_of_releaseRefusal hrst
      ((s.releaseRefusal_eq_some_iff _).2 ⟨hreleased, paramsRefusal_of_malformed hwf⟩)
  · cases hreleased : s.released with
    | true => exact ⟨_, State.supplyTable_of_released hreleased t⟩
    | false => exact ⟨_, State.supplyTable_of_malformed hreleased hwf⟩

end Sys2Proof.Machine
end

section
/-! The invariant of rule R222: it holds at the start of a run (rule R215), and every edge of such a state keeps it. -/

namespace Sys2Proof.Machine

/-! The start of a run. -/

theorem reset_withParams_showsEntry (p : Params) : State.ShowsEntry { State.reset with params := p } :=
  ⟨fun hne => absurd rfl hne, fun _ => .inl ⟨rfl, rfl⟩⟩

/-- A launch answers a state only with legal parameters, and the state is the post-reset state with them. -/
theorem launch_eq_next_iff {p : Params} {s : State} :
    launch p = .next s ↔ paramsRefusal p = none ∧ s = { State.reset with params := p } := by
  unfold launch
  cases paramsRefusal p with
  | none => simp [eq_comm]
  | some r => simp

/-- Settles O46: the post-reset state with any legal parameters, the defaults among them. -/
theorem resetIsSound : Obligations.ResetIsSound := by
  refine ⟨⟨reset_withParams_sound defaultParams_legal, reset_withParams_showsEntry defaultParams⟩, fun p s hlaunch => ?_⟩
  obtain ⟨hlegal, rfl⟩ := launch_eq_next_iff.1 hlaunch
  exact ⟨rfl, reset_withParams_sound hlegal, reset_withParams_showsEntry p⟩

/-! A sound state. -/

theorem State.launched.not_refused {s : State} (h : s.launched) : s.releaseRefusal = none :=
  s.releaseRefusal_eq_none_iff.2 (.inr (s.launched_iff.1 h))

/-- Rule R112 for one entry. -/
theorem hold_ne_zero_of_positiveHolds {t : RomTable} (h : positiveHolds t = true) {c : StateCode} {e : RomEntry}
    (hread : romRead t c = some e) : e.hold ≠ 0#16 := by
  simpa using List.all_eq_true.1 h e (mem_of_romRead hread)

theorem doReset_sound {s : State} (h : s.launched) : s.doReset.Sound :=
  ⟨h, rfl, by simp, by simp, fun hph => absurd hph (by decide : 0b00#2 ≠ phaseHold)⟩

section
variable {s : State} (h : s.Sound)
include h

/-- EMIT finds an entry with a positive hold (rules R112, R162). -/
theorem emitEdge_sound : (emitEdge s.cur s).Sound := by
  obtain ⟨-, -, -, -, -, -, -, hpositive, -⟩ := (wfTable_iff _).1 h.table_wf
  obtain ⟨hlaunched, hflt, hcur, -, -⟩ := h
  have hread := romRead_some_of_le s.params.table hcur
  have hhold := hold_ne_zero_of_positiveHolds hpositive hread
  rw [emitEdge_of_hold_ne_zero hread hhold]
  exact ⟨hlaunched, hflt, hcur, (by decide : phaseHold.toNat ≤ 2), fun _ => hhold⟩

/-- HOLD finds a positive counter, and leaves the phase when it counts the last tick (rule R163). -/
theorem holdEdge_sound (hph : s.ph = phaseHold) : (holdEdge s).Sound := by
  obtain ⟨hlaunched, hflt, hcur, hphase, hcnt⟩ := id h
  obtain ⟨hzero, -⟩ | ⟨-, -, hedge⟩ | ⟨-, -, hedge⟩ := holdEdge_cases s
  · exact absurd hzero (hcnt hph)
  · rw [hedge]
    by_cases hlast : s.cnt = 1#16
    · have hsample : s.countTick.ph = phaseSample := by rw [State.countTick_ph, if_pos hlast]
      exact ⟨hlaunched, hflt, hcur, by rw [hsample]; decide, fun hne => absurd (hsample.symm.trans hne) (by decide)⟩
    · have hstays : s.countTick.ph = s.ph := by rw [State.countTick_ph, if_neg hlast]
      have hleft : s.cnt - 1#16 ≠ 0#16 := by bv_omega
      exact ⟨hlaunched, hflt, hcur, by rwa [hstays], fun _ => hleft⟩
  · rwa [hedge]

/-- SAMPLE finds a successor in a total table (rules R106, R164). -/
theorem sampleEdge_sound : (sampleEdge s.cur s).Sound := by
  obtain ⟨-, htotal, -⟩ := (wfTable_iff _).1 h.table_wf
  obtain ⟨hlaunched, hflt, hcur, -, -⟩ := h
  obtain ⟨n, hnext⟩ := exists_nextState htotal hcur s.sense
  obtain ⟨-, hn⟩ := toNat_le_of_nextState hnext
  rw [sampleEdge_of_nextState hnext]
  exact ⟨hlaunched, hflt, hn, (by decide : phaseEmit.toNat ≤ 2), fun hph => absurd hph (by decide : phaseEmit ≠ phaseHold)⟩

theorem entryEdge_sound : (entryEdge s.cur s).Sound := by
  obtain hph | hph | hph | hph := phase_cases s.ph
  · rw [entryEdge_emit hph]; exact emitEdge_sound h
  · rw [entryEdge_hold hph]; exact holdEdge_sound h hph
  · rw [entryEdge_sample hph]; exact sampleEdge_sound h
  · obtain ⟨-, -, -, hle, -⟩ := h
    rw [hph] at hle
    exact absurd hle (by decide)

end

/-- Settles O47: a sound state is neither refused nor faulted, so its edge is a reset edge or the edge of `cur`'s entry. -/
theorem stepKeepsSound : Obligations.StepKeepsSound := by
  intro s h
  obtain ⟨hlaunched, hflt, -⟩ := id h
  obtain ⟨-, hs⟩ | ⟨-, r, hr, -⟩ | ⟨-, -, hfault, -⟩ | ⟨-, -, -, hs⟩ := step_cases s
  · exact ⟨_, hs, doReset_sound hlaunched⟩
  · rw [hlaunched.not_refused] at hr
    cases hr
  · exact absurd hflt hfault
  · exact ⟨_, hs, entryEdge_sound h⟩

end Sys2Proof.Machine
end

section
/-! Reset held and released (rules R211, R213), and the edges at which the ports change (rule R219). -/

namespace Sys2Proof.Machine

/-! Reset. -/

/-- From the post-reset registers any number of reset edges leads to the post-reset registers. -/
theorem runEdges_of_forall_rst {rest : List EdgeInput} (l : List EdgeInput) {s : State} (hregs : State.reset.sameRegs s)
    (hrst : ∀ i ∈ l, i.rst = true) (hinputs : s.inputs = l ++ rest) :
    ∃ t, runEdges l.length s = .next t ∧ State.reset.sameRegs t ∧ t.params = s.params ∧ t.inputs = rest := by
  induction l generalizing s with
  | nil => exact ⟨s, rfl, hregs, rfl, hinputs⟩
  | cons i l ih =>
    obtain ⟨hi, hl⟩ := List.forall_mem_cons.1 hrst
    have hstep := step_of_rst (s := s) (by rw [s.ports_of_cons hinputs, hi])
    obtain ⟨t, hrun, ht⟩ :=
      ih (s := s.doReset.endEdge) ⟨rfl, rfl, rfl, rfl, rfl, rfl⟩ hl (congrArg List.tail hinputs)
    exact ⟨t, (runEdges_succ hstep _).trans hrun, ht⟩

/-- Settles O3: the first reset edge loads the post-reset registers whatever was before, and the others keep them. -/
theorem resetMayBeHeld : Obligations.ResetMayBeHeld := by
  intro s l rest hne hrst hinputs
  obtain ⟨i, l, rfl⟩ := List.exists_cons_of_ne_nil hne
  obtain ⟨hi, hl⟩ := List.forall_mem_cons.1 hrst
  have hstep := step_of_rst (s := s) (by rw [s.ports_of_cons hinputs, hi])
  obtain ⟨t, hrun, hregs, hparams, hrest⟩ := runEdges_of_forall_rst (s := s.doReset.endEdge) l
    ⟨rfl, rfl, rfl, rfl, rfl, rfl⟩ hl (congrArg List.tail hinputs)
  refine ⟨t, (runEdges_succ hstep _).trans hrun, hregs, hparams, hrest, fun hrelease hlaunched => ?_⟩
  have hlegal : t.launched := by rwa [State.launched, hparams]
  obtain ⟨-, hph, -, -, -, hflt⟩ := hregs
  rw [State.Runs.step_eq_runPhase ⟨hrelease, hlegal.not_refused⟩ hflt,
    runPhase_of_decodePhase (i := .emit) (by rw [hph]; rfl)]

/-- Settles O4: `cur` is 0 after reset, and the EMIT edge loads the words of the default table's entry there. -/
theorem firstEdgeEmitsGoNorthSouth : Obligations.FirstEdgeEmitsGoNorthSouth := by
  rintro s ⟨hcur, hph, -, htraffic, hped, hflt⟩ hrst hlaunched htable
  refine ⟨(State.trafficOut_of_not_faulted hflt).trans htraffic, (State.pedOut_of_not_faulted hflt).trans hped, ?_⟩
  have hread : romRead s.params.table s.cur = some rowGoNorthSouth := by rw [htable, hcur]; rfl
  have hruns : s.Runs := ⟨hrst, hlaunched.not_refused⟩
  rw [hruns.step_of_not_faulted hflt, entryEdge_emit hph, emitEdge_of_hold_ne_zero hread (by decide)]
  rfl

/-! The ports. -/

/-- The ports depend on three registers only. -/
theorem ports_congr {s t : State} (htraffic : t.trafficQ = s.trafficQ) (hped : t.pedQ = s.pedQ) (hflt : t.flt = s.flt) :
    t.trafficOut = s.trafficOut ∧ t.pedOut = s.pedOut := by
  simp only [State.trafficOut, State.pedOut, htraffic, hped, hflt, and_self]

theorem ports_eq_of_faulted {s t : State} (hs : s.flt ≠ 0b00#2) (ht : t.flt ≠ 0b00#2) :
    t.trafficOut = s.trafficOut ∧ t.pedOut = s.pedOut := by
  simp only [State.trafficOut_of_faulted hs, State.trafficOut_of_faulted ht, State.pedOut_of_faulted hs,
    State.pedOut_of_faulted ht, and_self]

/-- An edge keeps the ports, or it is one of the three of rule R219. A fault that finds another already taken shows the same
safe words. -/
theorem State.Edge.ports_cases {s t : State} {ev : Option Event} (h : s.Edge ev t) :
    (t.trafficOut = s.trafficOut ∧ t.pedOut = s.pedOut) ∨
    s.ports.rst = true ∨ (s.flt = 0b00#2 ∧ s.ph = phaseEmit) ∨ (s.flt = 0b00#2 ∧ t.flt ≠ 0b00#2) := by
  cases h with
  | reset hrst => exact .inr (.inl hrst)
  | emit _ hflt hph _ => exact .inr (.inr (.inl ⟨hflt, hph⟩))
  | quiet | count | wait | sample => exact .inl (ports_congr rfl rfl rfl)
  | fault _ f =>
    by_cases hflt : s.flt = 0b00#2
    · exact .inr (.inr (.inr ⟨hflt, faultCode_ne_zero f⟩))
    · exact .inl (ports_eq_of_faulted hflt (faultCode_ne_zero f))

/-- Settles O40: the other edges write neither output register nor a first fault. -/
theorem portsChangeOnlyAt : Obligations.PortsChangeOnlyAt :=
  fun _ _ hstep => (edge_of_step hstep).ports_cases.resolve_left

end Sys2Proof.Machine
end

section
/-! How many edges a drive cycle takes (rules R220, R223): from its EMIT edge to the next one, with a strobe at every edge,
and with a strobe every `P` edges. -/

namespace Sys2Proof.Machine

/-! One cycle, whatever the distance of its strobes. -/

/-- Rules R105 and R169: an entry of a table without dangling successors has a drive cycle for every sample, with its hold. -/
theorem exists_drive {t : RomTable} {c : StateCode} {e : RomEntry} (hdangling : noDangling t = true)
    (hread : romRead t c = some e) (x : Sense) : ∃ d, drive t c x = .ok d ∧ d.hold = e.hold := by
  have hle : (entryNext e x).toNat ≤ 8 :=
    (noDangling_iff t).1 hdangling e (mem_of_romRead hread) _ (by simp [entryNext])
  exact ⟨⟨e.traffic, e.ped, e.hold, entryNext e x⟩, by simp [drive, outputsFor_of_romRead hread, nextState_of_le hread hle],
    rfl⟩

/-- After its EMIT edge and before its SAMPLE edge a cycle is in HOLD or SAMPLE. -/
theorem State.AtCycle.ph_ne_emit {s : State} {d : DriveCycle} {e last z : EdgeInput} {l rest : List EdgeInput}
    (h : s.AtCycle d e last z l rest) {m : ℕ} (hpos : 1 ≤ m) (hlt : m < 1 + (l.length + 1) + 1) :
    ∃ t, runEdges m s = .next t ∧ t.ph ≠ phaseEmit := by
  obtain ⟨k, hk, rfl⟩ | rfl : (∃ k ≤ l.length, m = 1 + k) ∨ m = 1 + (l.length + 1) := by
    by_cases hhold : m ≤ 1 + l.length
    · exact .inl ⟨m - 1, by omega, by omega⟩
    · exact .inr (by omega)
  · obtain ⟨n, r, hrun⟩ := h.runEdges_hold hk
    exact ⟨_, hrun, (by decide : phaseHold ≠ phaseEmit)⟩
  · exact ⟨_, h.runEdges_holdEnded, (by decide : phaseSample ≠ phaseEmit)⟩

/-- The controller, not faulted, stands again at an EMIT edge after `n` edges, and at none of the edges between. -/
def State.CycleTakes (s : State) (n : ℕ) : Prop :=
  (∃ t, runEdges n s = .next t ∧ t.ph = phaseEmit ∧ t.flt = 0b00#2) ∧
  ∀ m, 1 ≤ m → m < n → ∃ t, runEdges m s = .next t ∧ t.ph ≠ phaseEmit

theorem State.AtCycle.cycleTakes {s : State} {d : DriveCycle} {e last z : EdgeInput} {l rest : List EdgeInput}
    (h : s.AtCycle d e last z l rest) : s.CycleTakes (1 + (l.length + 1) + 1) :=
  ⟨⟨_, h.cyclesTo.run, h.cyclesTo.phase, h.cyclesTo.not_faulted⟩, fun _ => h.ph_ne_emit⟩

/-- The controller stands at the EMIT edge of the entry `e`, which raises no fault, with these inputs to come. -/
structure State.AtEntry (s : State) (e : RomEntry) (inputs : List EdgeInput) : Prop where
  not_faulted : s.flt = 0b00#2
  not_refused : s.releaseRefusal = none
  phase : s.ph = phaseEmit
  read : romRead s.params.table s.cur = some e
  no_dangling : noDangling s.params.table = true
  inputs : s.inputs = inputs

/-- Inputs whose strobes between the EMIT and the SAMPLE edge fill the hold, the last of them right before the SAMPLE edge, make
one cycle. -/
theorem State.AtEntry.cycleTakes {s : State} {e : RomEntry} {i last z : EdgeInput} {l rest : List EdgeInput}
    (h : s.AtEntry e (i :: (l ++ [last, z]) ++ rest)) (hquiet : noReset (i :: (l ++ [last, z])))
    (hfull : strobes l + 1 = e.hold.toNat) (hends : last.tick = true) :
    s.CycleTakes (i :: (l ++ [last, z])).length := by
  obtain ⟨d, hcell, hhold⟩ :=
    exists_drive h.no_dangling h.read (maskSense (BitVec.ofNat s.params.sensorRawW z.sensorRaw))
  have hcycle : s.AtCycle d i last z l rest :=
    ⟨h.not_faulted, h.not_refused, h.phase, hcell, hquiet, by rw [hhold, hfull], hends, by simpa using h.inputs⟩
  have hlength : (i :: (l ++ [last, z])).length = 1 + (l.length + 1) + 1 := by
    simp only [List.length_cons, List.length_append, List.length_nil]
    omega
  rw [hlength]
  exact hcycle.cycleTakes

/-! A strobe at every edge. -/

theorem strobes_eq_length {l : List EdgeInput} (h : ∀ i ∈ l, i.tick = true) : strobes l = l.length :=
  congrArg List.length (List.filter_eq_self.2 h)

/-- Three or more inputs are those of a cycle: its EMIT edge, its hold but for the last edge, and the last two edges. -/
theorem exists_cycle_parts {l : List EdgeInput} {k : ℕ} (h : l.length = k + 3) :
    ∃ i m last z, l = i :: (m ++ [last, z]) ∧ m.length = k := by
  obtain ⟨i, l, rfl⟩ := List.exists_cons_of_length_eq_add_one h
  rw [List.length_cons] at h
  obtain ⟨last, z, hend⟩ := List.length_eq_two.1 (by rw [List.length_drop]; omega : (l.drop k).length = 2)
  exact ⟨i, l.take k, last, z, by rw [← hend, List.take_append_drop], List.length_take_of_le (by omega)⟩

/-- Settles O54: all edges strobe, so all of the hold's edges count, and the cycle has two edges more. -/
theorem shortestCycleLength : Obligations.ShortestCycleLength := by
  intro s e l rest hflt hrelease hph hread hhold hdangling hquiet htick hlength hinputs
  have hpos : e.hold.toNat = e.hold.toNat - 1 + 1 := by bv_omega
  obtain ⟨i, m, last, z, rfl, hm⟩ := exists_cycle_parts (l := l) (k := e.hold.toNat - 1) (by omega)
  have hentry : s.AtEntry e (i :: (m ++ [last, z]) ++ rest) := ⟨hflt, hrelease, hph, hread, hdangling, hinputs⟩
  refine hentry.cycleTakes hquiet ?_ (htick last (by simp))
  rw [strobes_eq_length fun j hj => htick j (by simp [hj]), hm, ← hpos]

/-! A strobe every `P` edges. -/

/-- The input at the edge `j` of the cycle: a strobe two edges before each multiple of `P`. -/
def pulse (P raw j : ℕ) : EdgeInput := ⟨false, (j + 2) % P == 0, raw⟩

theorem pulse_tick_iff (P raw j : ℕ) : (pulse P raw j).tick = true ↔ P ∣ j + 2 := by
  simp [pulse, Nat.dvd_iff_mod_eq_zero]

theorem pulse_tick_eq_modEq {P : ℕ} (hP : 3 ≤ P) (raw j : ℕ) : (pulse P raw j).tick = decide (j ≡ P - 2 [MOD P]) := by
  have hself : P - 2 + 2 ≡ 0 [MOD P] := by rw [Nat.sub_add_cancel (by omega)]; exact Nat.modulus_modEq_zero
  rw [Bool.eq_iff_iff, pulse_tick_iff, decide_eq_true_iff, ← Nat.modEq_zero_iff_dvd]
  exact ⟨fun hj => Nat.ModEq.add_right_cancel' 2 (hj.trans hself.symm), fun hj => (hj.add_right 2).trans hself⟩

/-- The EMIT edge and the SAMPLE edge of a cycle of pulses do not strobe, and the edge before the SAMPLE edge does. -/
theorem pulse_tick_ends {P k n : ℕ} (hP : 3 ≤ P) (hedges : n * P = k + 3) (raw : ℕ) :
    (pulse P raw 0).tick = false ∧ (pulse P raw (k + 1)).tick = true ∧ (pulse P raw (k + 2)).tick = false := by
  have hdvd : P ∣ k + 3 := ⟨n, by rw [← hedges, Nat.mul_comm]⟩
  simp only [← Bool.not_eq_true, pulse_tick_iff]
  refine ⟨Nat.not_dvd_of_pos_of_lt (by decide) hP, hdvd, fun hnext => ?_⟩
  have hone : P ∣ 1 := (Nat.dvd_add_right hdvd).1 hnext
  exact absurd (Nat.le_of_dvd Nat.one_pos hone) (by omega)

/-- Of every `P` pulses one strobes. -/
theorem strobes_pulses {P : ℕ} (hP : 3 ≤ P) (raw h : ℕ) : strobes ((List.range (h * P)).map (pulse P raw)) = h := by
  have hpos : 0 < P := by omega
  calc strobes ((List.range (h * P)).map (pulse P raw))
      = (h * P).count (· ≡ P - 2 [MOD P]) := by
        simp [strobes, Nat.count, List.countP_eq_length_filter, List.filter_map, Function.comp_def,
          pulse_tick_eq_modEq hP]
    _ = h := by
        rw [Nat.count_modEq_card (h * P) hpos, Nat.mul_mod_left, if_neg (Nat.not_lt_zero _), Nat.mul_div_cancel h hpos,
          Nat.add_zero]

/-- The pulses of a cycle, taken apart. -/
theorem range_pulses_eq (P raw k : ℕ) :
    (List.range (k + 3)).map (pulse P raw) =
      pulse P raw 0 ::
        (((List.range k).map fun j => pulse P raw (j + 1)) ++ [pulse P raw (k + 1), pulse P raw (k + 2)]) := by
  rw [List.range_succ_eq_map, List.range_succ, List.range_succ]
  simp [Function.comp_def]

theorem noReset_pulses (P raw n : ℕ) : noReset ((List.range n).map (pulse P raw)) :=
  List.forall_mem_map.2 fun _ _ => rfl

/-- Settles O55: of the `hold * P` edges `hold` strobe, the last of them before the SAMPLE edge, which does not. -/
theorem pulsedCycleLength : Obligations.PulsedCycleLength := by
  intro s e P raw rest hP hflt hrelease hph hread hhold hdangling hinputs
  change s.inputs = (List.range (e.hold.toNat * P)).map (pulse P raw) ++ rest at hinputs
  change s.CycleTakes (e.hold.toNat * P)
  have hlength : ((List.range (e.hold.toNat * P)).map (pulse P raw)).length = e.hold.toNat * P := by simp
  have hstrobes := strobes_pulses hP raw e.hold.toNat
  have hquiet := noReset_pulses P raw (e.hold.toNat * P)
  have hedges : P ≤ e.hold.toNat * P := Nat.le_mul_of_pos_left P (by bv_omega)
  obtain ⟨k, hk⟩ : ∃ k, e.hold.toNat * P = k + 3 := Nat.exists_eq_add_of_le' (by omega)
  obtain ⟨hfirst, hlast, hsample⟩ := pulse_tick_ends hP hk raw
  rw [hk, range_pulses_eq] at hinputs hstrobes hquiet hlength
  have hentry : s.AtEntry e _ := ⟨hflt, hrelease, hph, hread, hdangling, hinputs⟩
  rw [hk, ← hlength]
  exact hentry.cycleTakes hquiet (by simpa [strobes, hfirst, hlast, hsample] using hstrobes) hlast

end Sys2Proof.Machine
end
